-- ==== Sys2Proof/Word.lean ====
section
/-! DEFINITION. The widths R9 (00_scope.md) gives as parameters, and the word types over them (R11). -/

namespace Sys2Proof

/-- `ADDR_W`, external address width in bits (R9). -/
abbrev Config.addrW : Nat := 32

/-- `DATA_W`, external and internal data width in bits (R9). -/
abbrev Config.dataW : Nat := 32

/-- `SIZ_W`, size-code width in bits (R9). -/
abbrev Config.sizW : Nat := 2

/-- `LANES`, byte lanes of the internal bus (R9). -/
abbrev Config.lanes : Nat := 4

/-- `IADR_W`, internal word-address width in bits (R9). -/
abbrev Config.iadrW : Nat := 30

/-- `DSACK_LINES`, acknowledge lines (R9). -/
abbrev Config.dsackLines : Nat := 2

/-- External byte address (R9, R80). -/
abbrev Addr := BitVec Config.addrW

/-- External and internal data (R9). -/
abbrev Word := BitVec Config.dataW

/-- Internal word address (R9, R81). -/
abbrev WordAddr := BitVec Config.iadrW

/-- One byte-lane select bit per lane; bit 3 is the most significant byte (R11, R88). -/
abbrev LaneMask := BitVec Config.lanes

/-- The size-code lines `siz[1:0]` (R9, R112). -/
abbrev SizeCode := BitVec Config.sizW

/-- The acknowledge lines `dsack_n[1:0]` (R9, R17). -/
abbrev DsackLines := BitVec Config.dsackLines

/-- Window identifier, external address bits [31:24] (R111). -/
abbrev Win := BitVec 8

end Sys2Proof
end

