-- ==== Sys2Proof/Config.lean ====
section
/-! DEFINITION. What an implementation fixes (00_scope.md R9, R112) and the free values: constants without
a body, so that no proof can see what they are. -/

namespace Sys2Proof

/-- The four sizes the size code names (R112). -/
inductive Size where
  | long
  | byte
  | word
  | threeByte
deriving DecidableEq, Repr

/-- The nine synchronized groups of external lines, 73 bits in all (40_synchronizer.md R141). A one-bit
line is a `Bool`: `true` is electrical level 1, so an active-low line is asserted at `false` (R14). -/
structure Lines where
  /-- address `a[31:0]` -/
  a : Addr
  /-- data `d[31:0]` -/
  d : Word
  /-- address strobe `as_n` -/
  asN : Bool
  /-- data strobe `ds_n` -/
  dsN : Bool
  /-- `rw`, 1 = read (R14) -/
  rw : Bool
  /-- size code `siz[1:0]` -/
  siz : SizeCode
  /-- acknowledge lines `dsack_n[1:0]` -/
  dsackN : DsackLines
  /-- bus grant `bg_n` -/
  bgN : Bool
  /-- bus in use `bgack_n` -/
  bgackN : Bool
deriving DecidableEq, Repr, Inhabited

/-! ## Parameters (R9); the widths are in Word.lean -/

/-- `SLOT_IDS` (R9, R10, R82). -/
def Config.slotIds : List Win := [0xF9, 0xFA, 0xFB]

/-- `RESET_MIN_TICKS` (R9, R321). -/
def Config.resetMinTicks : Nat := 3

/-- `SYNC_STAGES` (R9, R140). -/
def Config.syncStages : Nat := 2

/-- `MASTER_TIMEOUT`: no timeout exists (R9, R259). -/
def Config.masterTimeout : Option Nat := none

/-- The size-code table of R112. PRESUMED: the spec takes it from the 68030, not from its source (log 1). -/
def Config.sizeOf (siz : SizeCode) : Size :=
  if siz = 0b00#2 then .long
  else if siz = 0b01#2 then .byte
  else if siz = 0b10#2 then .word
  else .threeByte

/-- The same table read the other way: the code of a size (R112). -/
def Config.sizeCode : Size → SizeCode
  | .long => 0b00#2
  | .byte => 0b01#2
  | .word => 0b10#2
  | .threeByte => 0b11#2

/-! ## Free values

Each is a constant without a body. The argument is the number of the tick (`State.draws`), so that every
tick has values of its own. -/

/-- What an undriven `a`, `d` or `siz` and a fought tri-state line read in a tick (R122, R281; log 5). -/
opaque Config.drawn : Nat → Lines

/-- The metastability draw of a tick: a set bit samples the old level of a bit that changes (R147; log 6). -/
opaque Config.late : Nat → Lines

/-- `d_o` while the block does not drive it, "any value; not driven" (R273; log 5). -/
opaque Config.undrivenData : Word

/-! ## Values the spec leaves unspecified after reset (R49, R50; log 4, log 7, log 14) -/

/-- Stage 1 of the undriven groups `a`, `d`, `siz`; its other fields are not used. -/
opaque Config.resetStage1 : Lines
/-- Stage 2 of the undriven groups `a`, `d`, `siz`; its other fields are not used. -/
opaque Config.resetStage2 : Lines
/-- The wire of the last reset tick for `a`, `d`, `siz`; its other fields are not used. -/
opaque Config.resetWire : Lines
opaque Config.resetCtxAdr : WordAddr
opaque Config.resetCtxDir : Bool
opaque Config.resetCtxMask : LaneMask
opaque Config.resetRdata : Word
opaque Config.resetMctxAdr : WordAddr
opaque Config.resetMctxWe : Bool
opaque Config.resetMctxWdata : Word
opaque Config.resetMrdata : Word
opaque Config.resetSrdDat : Word
opaque Config.resetDmaWe : Bool
opaque Config.resetDmaAdr : WordAddr
opaque Config.resetDmaSel : LaneMask
opaque Config.resetDmaDat : Word

end Sys2Proof
end

