-- ==== Sys2Proof/Syntax.lean ====
section
/-! DEFINITION. The operations of the block, one constructor per row of the opcode table
(30_encoding.md R110, R115, R116), and the two descriptor formats that select them. -/

namespace Sys2Proof

/-- An operation-selecting descriptor: `SD13` (R111) or `DD3` (R114). -/
inductive Descriptor where
  | sd13 (w : BitVec 13)
  | dd3 (w : BitVec 3)
deriving DecidableEq, Repr

/-- One constructor per row. `win` is the window of an FA-FB row; `off` is the byte offset of a row whose
class admits more than one (L, WX, TX1). The word offset `a[23:2]` and the `dma` address and data are
operands outside the descriptor (R111, R114): the operation reads them where it is sampled. -/
inductive Instr where
  /-- `SRD.L@F9` (R200): slave read, long, any offset. -/
  | srdLF9 (off : BitVec 2)
  /-- `SRD.L@FA-FB` (R200): slave read, long, any offset. -/
  | srdLFAFB (win : Win) (off : BitVec 2)
  /-- `SRD.B0@F9` (R201): slave read, byte at offset 0. -/
  | srdB0F9
  /-- `SRD.B0@FA-FB` (R201): slave read, byte at offset 0. -/
  | srdB0FAFB (win : Win)
  /-- `SRD.B1@F9` (R202): slave read, byte at offset 1. -/
  | srdB1F9
  /-- `SRD.B1@FA-FB` (R202): slave read, byte at offset 1. -/
  | srdB1FAFB (win : Win)
  /-- `SRD.B2@F9` (R203): slave read, byte at offset 2. -/
  | srdB2F9
  /-- `SRD.B2@FA-FB` (R203): slave read, byte at offset 2. -/
  | srdB2FAFB (win : Win)
  /-- `SRD.B3@F9` (R204): slave read, byte at offset 3. -/
  | srdB3F9
  /-- `SRD.B3@FA-FB` (R204): slave read, byte at offset 3. -/
  | srdB3FAFB (win : Win)
  /-- `SRD.W0@F9` (R205): slave read, word at offset 0. -/
  | srdW0F9
  /-- `SRD.W0@FA-FB` (R205): slave read, word at offset 0. -/
  | srdW0FAFB (win : Win)
  /-- `SRD.W2@F9` (R206): slave read, word at offset 2. -/
  | srdW2F9
  /-- `SRD.W2@FA-FB` (R206): slave read, word at offset 2. -/
  | srdW2FAFB (win : Win)
  /-- `SRD.WX@F9` (R207): slave read, misaligned word (offset 1 or 3), fallback mask. -/
  | srdWXF9 (off : BitVec 2)
  /-- `SRD.WX@FA-FB` (R207): slave read, misaligned word (offset 1 or 3), fallback mask. -/
  | srdWXFAFB (win : Win) (off : BitVec 2)
  /-- `SRD.T0@F9` (R208): slave read, 3-byte at offset 0. -/
  | srdT0F9
  /-- `SRD.T0@FA-FB` (R208): slave read, 3-byte at offset 0. -/
  | srdT0FAFB (win : Win)
  /-- `SRD.TX1@F9` (R209): slave read, misaligned 3-byte at offset 1 or 3, fallback mask. -/
  | srdTX1F9 (off : BitVec 2)
  /-- `SRD.TX1@FA-FB` (R209): slave read, misaligned 3-byte at offset 1 or 3, fallback mask. -/
  | srdTX1FAFB (win : Win) (off : BitVec 2)
  /-- `SRD.TX2@F9` (R210): slave read, misaligned 3-byte at offset 2, fallback mask. -/
  | srdTX2F9
  /-- `SRD.TX2@FA-FB` (R210): slave read, misaligned 3-byte at offset 2, fallback mask. -/
  | srdTX2FAFB (win : Win)
  /-- `SWR.L@F9` (R211): slave write, long, any offset. -/
  | swrLF9 (off : BitVec 2)
  /-- `SWR.L@FA-FB` (R211): slave write, long, any offset. -/
  | swrLFAFB (win : Win) (off : BitVec 2)
  /-- `SWR.B0@F9` (R212): slave write, byte at offset 0. -/
  | swrB0F9
  /-- `SWR.B0@FA-FB` (R212): slave write, byte at offset 0. -/
  | swrB0FAFB (win : Win)
  /-- `SWR.B1@F9` (R213): slave write, byte at offset 1. -/
  | swrB1F9
  /-- `SWR.B1@FA-FB` (R213): slave write, byte at offset 1. -/
  | swrB1FAFB (win : Win)
  /-- `SWR.B2@F9` (R214): slave write, byte at offset 2. -/
  | swrB2F9
  /-- `SWR.B2@FA-FB` (R214): slave write, byte at offset 2. -/
  | swrB2FAFB (win : Win)
  /-- `SWR.B3@F9` (R215): slave write, byte at offset 3. -/
  | swrB3F9
  /-- `SWR.B3@FA-FB` (R215): slave write, byte at offset 3. -/
  | swrB3FAFB (win : Win)
  /-- `SWR.W0@F9` (R216): slave write, word at offset 0. -/
  | swrW0F9
  /-- `SWR.W0@FA-FB` (R216): slave write, word at offset 0. -/
  | swrW0FAFB (win : Win)
  /-- `SWR.W2@F9` (R217): slave write, word at offset 2. -/
  | swrW2F9
  /-- `SWR.W2@FA-FB` (R217): slave write, word at offset 2. -/
  | swrW2FAFB (win : Win)
  /-- `SWR.WX@F9` (R218): slave write, misaligned word (offset 1 or 3), fallback mask. -/
  | swrWXF9 (off : BitVec 2)
  /-- `SWR.WX@FA-FB` (R218): slave write, misaligned word (offset 1 or 3), fallback mask. -/
  | swrWXFAFB (win : Win) (off : BitVec 2)
  /-- `SWR.T0@F9` (R219): slave write, 3-byte at offset 0. -/
  | swrT0F9
  /-- `SWR.T0@FA-FB` (R219): slave write, 3-byte at offset 0. -/
  | swrT0FAFB (win : Win)
  /-- `SWR.TX1@F9` (R220): slave write, misaligned 3-byte at offset 1 or 3, fallback mask. -/
  | swrTX1F9 (off : BitVec 2)
  /-- `SWR.TX1@FA-FB` (R220): slave write, misaligned 3-byte at offset 1 or 3, fallback mask. -/
  | swrTX1FAFB (win : Win) (off : BitVec 2)
  /-- `SWR.TX2@F9` (R221): slave write, misaligned 3-byte at offset 2, fallback mask. -/
  | swrTX2F9
  /-- `SWR.TX2@FA-FB` (R221): slave write, misaligned 3-byte at offset 2, fallback mask. -/
  | swrTX2FAFB (win : Win)
  /-- `DMA_RD` (R265): one 32-bit external read. -/
  | dmaRd
  /-- `DMA_WR` (R266): one 32-bit external write. -/
  | dmaWr
deriving DecidableEq, Repr

end Sys2Proof
end

