-- ==== Sys2Proof/WellFormed.lean ====
section
/-! DEFINITION. The checks an operation's fields must pass: the fixed bits of its row that the
constructor's fields could contradict (30_encoding.md R115, opcode table). -/

namespace Sys2Proof

/-- An FA-FB row fixes `win[7:1]` = 0b1111101 (R115). -/
def winInFAFB (win : Win) : Bool := win.extractLsb' 1 7 == 0b1111101#7

/-- A WX or TX1 row fixes `off[0]` = 1 (R115). -/
def offsetOdd (off : BitVec 2) : Bool := off.getLsbD 0

/-- The operation is one its row encodes. -/
def Instr.wellFormed : Instr → Bool
  | .srdLF9 _ => true
  | .srdLFAFB win _ => winInFAFB win
  | .srdB0F9 => true
  | .srdB0FAFB win => winInFAFB win
  | .srdB1F9 => true
  | .srdB1FAFB win => winInFAFB win
  | .srdB2F9 => true
  | .srdB2FAFB win => winInFAFB win
  | .srdB3F9 => true
  | .srdB3FAFB win => winInFAFB win
  | .srdW0F9 => true
  | .srdW0FAFB win => winInFAFB win
  | .srdW2F9 => true
  | .srdW2FAFB win => winInFAFB win
  | .srdWXF9 off => offsetOdd off
  | .srdWXFAFB win off => winInFAFB win && offsetOdd off
  | .srdT0F9 => true
  | .srdT0FAFB win => winInFAFB win
  | .srdTX1F9 off => offsetOdd off
  | .srdTX1FAFB win off => winInFAFB win && offsetOdd off
  | .srdTX2F9 => true
  | .srdTX2FAFB win => winInFAFB win
  | .swrLF9 _ => true
  | .swrLFAFB win _ => winInFAFB win
  | .swrB0F9 => true
  | .swrB0FAFB win => winInFAFB win
  | .swrB1F9 => true
  | .swrB1FAFB win => winInFAFB win
  | .swrB2F9 => true
  | .swrB2FAFB win => winInFAFB win
  | .swrB3F9 => true
  | .swrB3FAFB win => winInFAFB win
  | .swrW0F9 => true
  | .swrW0FAFB win => winInFAFB win
  | .swrW2F9 => true
  | .swrW2FAFB win => winInFAFB win
  | .swrWXF9 off => offsetOdd off
  | .swrWXFAFB win off => winInFAFB win && offsetOdd off
  | .swrT0F9 => true
  | .swrT0FAFB win => winInFAFB win
  | .swrTX1F9 off => offsetOdd off
  | .swrTX1FAFB win off => winInFAFB win && offsetOdd off
  | .swrTX2F9 => true
  | .swrTX2FAFB win => winInFAFB win
  | .dmaRd => true
  | .dmaWr => true

end Sys2Proof
end

