-- ==== Sys2Proof/Decode.lean ====
section
/-! DEFINITION. Decoding of the two descriptor formats, total and rejecting by name, and the encoder
written from the same layouts (30_encoding.md R110 to R119). -/

namespace Sys2Proof

/-- Why a descriptor, or a list of bytes, is no operation. None of these is an error of the block. -/
inductive DecodeError where
  /-- `SD13` with `win` outside `SLOT_IDS`: the cycle is not for this device (R117). -/
  | notSelected
  /-- `DD3` with `cyc` = 0 or `stb` = 0: no request (R118). -/
  | noRequest
  /-- Bytes that are no descriptor: neither one byte nor two (log 11). -/
  | badLength
  /-- A set bit above the descriptor's width (log 11). -/
  | badPadding
deriving DecidableEq, Repr

/-- The decoder's answer. -/
inductive DecodeResult where
  | ok (i : Instr)
  | rejected (e : DecodeError)
deriving DecidableEq, Repr

/-- The operation of an answer, if there is one. -/
def DecodeResult.toOption : DecodeResult → Option Instr
  | .ok i => some i
  | .rejected _ => none

/-- `SD13` layout (R111): `win` in [12:5], `rw` in [4], `siz` in [3:2], `off` in [1:0]. -/
def sd13Word (win : Win) (rw : Bool) (siz : SizeCode) (off : BitVec 2) : BitVec 13 :=
  win ++ BitVec.ofBool rw ++ siz ++ off

def sd13Win (w : BitVec 13) : Win := w.extractLsb' 5 8
def sd13Rw (w : BitVec 13) : Bool := w.getLsbD 4
def sd13Siz (w : BitVec 13) : SizeCode := w.extractLsb' 2 2
def sd13Off (w : BitVec 13) : BitVec 2 := w.extractLsb' 0 2

/-- `DD3` layout (R114): `cyc` in [2], `stb` in [1], `we` in [0]. -/
def dd3Word (cyc stb we : Bool) : BitVec 3 :=
  BitVec.ofBool cyc ++ BitVec.ofBool stb ++ BitVec.ofBool we

def dd3Cyc (w : BitVec 3) : Bool := w.getLsbD 2
def dd3Stb (w : BitVec 3) : Bool := w.getLsbD 1
def dd3We (w : BitVec 3) : Bool := w.getLsbD 0

/-- The slave read operations of the 0xF9 rows, by size and offset (R115). -/
def readOpF9 (size : Size) (off : BitVec 2) : Instr :=
  match size with
  | .long => .srdLF9 off
  | .byte => if off = 0b00#2 then .srdB0F9 else if off = 0b01#2 then .srdB1F9 else if off = 0b10#2 then .srdB2F9 else .srdB3F9
  | .word => if off = 0b00#2 then .srdW0F9 else if off = 0b10#2 then .srdW2F9 else .srdWXF9 off
  | .threeByte => if off = 0b00#2 then .srdT0F9 else if off = 0b10#2 then .srdTX2F9 else .srdTX1F9 off

/-- The slave read operations of the 0xFA and 0xFB rows, by size and offset (R115). -/
def readOpFAFB (win : Win) (size : Size) (off : BitVec 2) : Instr :=
  match size with
  | .long => .srdLFAFB win off
  | .byte => if off = 0b00#2 then .srdB0FAFB win else if off = 0b01#2 then .srdB1FAFB win else if off = 0b10#2 then .srdB2FAFB win else .srdB3FAFB win
  | .word => if off = 0b00#2 then .srdW0FAFB win else if off = 0b10#2 then .srdW2FAFB win else .srdWXFAFB win off
  | .threeByte => if off = 0b00#2 then .srdT0FAFB win else if off = 0b10#2 then .srdTX2FAFB win else .srdTX1FAFB win off

/-- The slave write operations of the 0xF9 rows, by size and offset (R115). -/
def writeOpF9 (size : Size) (off : BitVec 2) : Instr :=
  match size with
  | .long => .swrLF9 off
  | .byte => if off = 0b00#2 then .swrB0F9 else if off = 0b01#2 then .swrB1F9 else if off = 0b10#2 then .swrB2F9 else .swrB3F9
  | .word => if off = 0b00#2 then .swrW0F9 else if off = 0b10#2 then .swrW2F9 else .swrWXF9 off
  | .threeByte => if off = 0b00#2 then .swrT0F9 else if off = 0b10#2 then .swrTX2F9 else .swrTX1F9 off

/-- The slave write operations of the 0xFA and 0xFB rows, by size and offset (R115). -/
def writeOpFAFB (win : Win) (size : Size) (off : BitVec 2) : Instr :=
  match size with
  | .long => .swrLFAFB win off
  | .byte => if off = 0b00#2 then .swrB0FAFB win else if off = 0b01#2 then .swrB1FAFB win else if off = 0b10#2 then .swrB2FAFB win else .swrB3FAFB win
  | .word => if off = 0b00#2 then .swrW0FAFB win else if off = 0b10#2 then .swrW2FAFB win else .swrWXFAFB win off
  | .threeByte => if off = 0b00#2 then .swrT0FAFB win else if off = 0b10#2 then .swrTX2FAFB win else .swrTX1FAFB win off

/-- The operation map of `SD13` (R115, R117). -/
def decodeSD13 (w : BitVec 13) : DecodeResult :=
  let win := sd13Win w
  let size := Config.sizeOf (sd13Siz w)
  let off := sd13Off w
  if win = 0xF9#8 then
    .ok (if sd13Rw w then readOpF9 size off else writeOpF9 size off)
  else if winInFAFB win then
    .ok (if sd13Rw w then readOpFAFB win size off else writeOpFAFB win size off)
  else .rejected .notSelected

/-- The operation map of `DD3` (R116, R118). -/
def decodeDD3 (w : BitVec 3) : DecodeResult :=
  if dd3Cyc w && dd3Stb w then .ok (if dd3We w then .dmaWr else .dmaRd)
  else .rejected .noRequest

/-- Decoding of a descriptor of either format (R110: no mode changes it, no length logic). -/
def decode : Descriptor → DecodeResult
  | .sd13 w => decodeSD13 w
  | .dd3 w => decodeDD3 w

/-- Decoding of the bytes a descriptor is laid out in, the low byte first. DESIGN CHOICE: the hardware
stores no descriptor in a memory; two bytes are an `SD13`, one byte is a `DD3` (log 11). -/
def decodeBytes : List (BitVec 8) → DecodeResult
  | [b] =>
    if b.extractLsb' 3 5 = 0#5 then decodeDD3 (b.extractLsb' 0 3) else .rejected .badPadding
  | [lo, hi] =>
    if hi.extractLsb' 5 3 = 0#3 then decodeSD13 (hi.extractLsb' 0 5 ++ lo) else .rejected .badPadding
  | _ => .rejected .badLength

/-- What the decoder reads from a table row's bits `w`, numbered as the opcode table numbers them. A row of
at most one byte is a `DD3`, a longer one an `SD13` (log 11). -/
def decodeTableWord (nbits w : Nat) : Option Instr :=
  if nbits ≤ 8 then (decodeBytes [BitVec.ofNat 8 w]).toOption
  else if nbits ≤ 16 then (decodeBytes [BitVec.ofNat 8 w, BitVec.ofNat 8 (w / 256)]).toOption
  else none

/-! ## The encoder -/

/-- The descriptor of a well-formed operation, from the layouts of R111 and R114 and the map of R115 and R116. -/
def encode : Instr → Descriptor
  | .srdLF9 off => .sd13 (sd13Word 0xF9#8 true (Config.sizeCode .long) off)
  | .srdLFAFB win off => .sd13 (sd13Word win true (Config.sizeCode .long) off)
  | .srdB0F9 => .sd13 (sd13Word 0xF9#8 true (Config.sizeCode .byte) 0#2)
  | .srdB0FAFB win => .sd13 (sd13Word win true (Config.sizeCode .byte) 0#2)
  | .srdB1F9 => .sd13 (sd13Word 0xF9#8 true (Config.sizeCode .byte) 1#2)
  | .srdB1FAFB win => .sd13 (sd13Word win true (Config.sizeCode .byte) 1#2)
  | .srdB2F9 => .sd13 (sd13Word 0xF9#8 true (Config.sizeCode .byte) 2#2)
  | .srdB2FAFB win => .sd13 (sd13Word win true (Config.sizeCode .byte) 2#2)
  | .srdB3F9 => .sd13 (sd13Word 0xF9#8 true (Config.sizeCode .byte) 3#2)
  | .srdB3FAFB win => .sd13 (sd13Word win true (Config.sizeCode .byte) 3#2)
  | .srdW0F9 => .sd13 (sd13Word 0xF9#8 true (Config.sizeCode .word) 0#2)
  | .srdW0FAFB win => .sd13 (sd13Word win true (Config.sizeCode .word) 0#2)
  | .srdW2F9 => .sd13 (sd13Word 0xF9#8 true (Config.sizeCode .word) 2#2)
  | .srdW2FAFB win => .sd13 (sd13Word win true (Config.sizeCode .word) 2#2)
  | .srdWXF9 off => .sd13 (sd13Word 0xF9#8 true (Config.sizeCode .word) off)
  | .srdWXFAFB win off => .sd13 (sd13Word win true (Config.sizeCode .word) off)
  | .srdT0F9 => .sd13 (sd13Word 0xF9#8 true (Config.sizeCode .threeByte) 0#2)
  | .srdT0FAFB win => .sd13 (sd13Word win true (Config.sizeCode .threeByte) 0#2)
  | .srdTX1F9 off => .sd13 (sd13Word 0xF9#8 true (Config.sizeCode .threeByte) off)
  | .srdTX1FAFB win off => .sd13 (sd13Word win true (Config.sizeCode .threeByte) off)
  | .srdTX2F9 => .sd13 (sd13Word 0xF9#8 true (Config.sizeCode .threeByte) 2#2)
  | .srdTX2FAFB win => .sd13 (sd13Word win true (Config.sizeCode .threeByte) 2#2)
  | .swrLF9 off => .sd13 (sd13Word 0xF9#8 false (Config.sizeCode .long) off)
  | .swrLFAFB win off => .sd13 (sd13Word win false (Config.sizeCode .long) off)
  | .swrB0F9 => .sd13 (sd13Word 0xF9#8 false (Config.sizeCode .byte) 0#2)
  | .swrB0FAFB win => .sd13 (sd13Word win false (Config.sizeCode .byte) 0#2)
  | .swrB1F9 => .sd13 (sd13Word 0xF9#8 false (Config.sizeCode .byte) 1#2)
  | .swrB1FAFB win => .sd13 (sd13Word win false (Config.sizeCode .byte) 1#2)
  | .swrB2F9 => .sd13 (sd13Word 0xF9#8 false (Config.sizeCode .byte) 2#2)
  | .swrB2FAFB win => .sd13 (sd13Word win false (Config.sizeCode .byte) 2#2)
  | .swrB3F9 => .sd13 (sd13Word 0xF9#8 false (Config.sizeCode .byte) 3#2)
  | .swrB3FAFB win => .sd13 (sd13Word win false (Config.sizeCode .byte) 3#2)
  | .swrW0F9 => .sd13 (sd13Word 0xF9#8 false (Config.sizeCode .word) 0#2)
  | .swrW0FAFB win => .sd13 (sd13Word win false (Config.sizeCode .word) 0#2)
  | .swrW2F9 => .sd13 (sd13Word 0xF9#8 false (Config.sizeCode .word) 2#2)
  | .swrW2FAFB win => .sd13 (sd13Word win false (Config.sizeCode .word) 2#2)
  | .swrWXF9 off => .sd13 (sd13Word 0xF9#8 false (Config.sizeCode .word) off)
  | .swrWXFAFB win off => .sd13 (sd13Word win false (Config.sizeCode .word) off)
  | .swrT0F9 => .sd13 (sd13Word 0xF9#8 false (Config.sizeCode .threeByte) 0#2)
  | .swrT0FAFB win => .sd13 (sd13Word win false (Config.sizeCode .threeByte) 0#2)
  | .swrTX1F9 off => .sd13 (sd13Word 0xF9#8 false (Config.sizeCode .threeByte) off)
  | .swrTX1FAFB win off => .sd13 (sd13Word win false (Config.sizeCode .threeByte) off)
  | .swrTX2F9 => .sd13 (sd13Word 0xF9#8 false (Config.sizeCode .threeByte) 2#2)
  | .swrTX2FAFB win => .sd13 (sd13Word win false (Config.sizeCode .threeByte) 2#2)
  | .dmaRd => .dd3 (dd3Word true true false)
  | .dmaWr => .dd3 (dd3Word true true true)

/-! ## The opcode table's own match and mask -/

/-- A row of the opcode table: the bits under `mask` must equal `value`. -/
structure TableRow where
  format13 : Bool
  mask : Nat
  value : Nat
deriving DecidableEq, Repr

/-- The 13-bit (or 3-bit) number of a descriptor. -/
def Descriptor.toNat : Descriptor → Nat
  | .sd13 w => w.toNat
  | .dd3 w => w.toNat

def Descriptor.isSD13 : Descriptor → Bool
  | .sd13 _ => true
  | .dd3 _ => false

/-- The row selects the descriptor. -/
def TableRow.selects (r : TableRow) (d : Descriptor) : Bool :=
  r.format13 == d.isSD13 && d.toNat &&& r.mask == r.value

/-- The row of each operation, `match` and `mask` as opcode_table.json gives them. -/
def Instr.row : Instr → TableRow
  | .srdLF9 _ => ⟨true, 0x1FFC, 0x1F30⟩
  | .srdLFAFB _ _ => ⟨true, 0x1FDC, 0x1F50⟩
  | .srdB0F9 => ⟨true, 0x1FFF, 0x1F34⟩
  | .srdB0FAFB _ => ⟨true, 0x1FDF, 0x1F54⟩
  | .srdB1F9 => ⟨true, 0x1FFF, 0x1F35⟩
  | .srdB1FAFB _ => ⟨true, 0x1FDF, 0x1F55⟩
  | .srdB2F9 => ⟨true, 0x1FFF, 0x1F36⟩
  | .srdB2FAFB _ => ⟨true, 0x1FDF, 0x1F56⟩
  | .srdB3F9 => ⟨true, 0x1FFF, 0x1F37⟩
  | .srdB3FAFB _ => ⟨true, 0x1FDF, 0x1F57⟩
  | .srdW0F9 => ⟨true, 0x1FFF, 0x1F38⟩
  | .srdW0FAFB _ => ⟨true, 0x1FDF, 0x1F58⟩
  | .srdW2F9 => ⟨true, 0x1FFF, 0x1F3A⟩
  | .srdW2FAFB _ => ⟨true, 0x1FDF, 0x1F5A⟩
  | .srdWXF9 _ => ⟨true, 0x1FFD, 0x1F39⟩
  | .srdWXFAFB _ _ => ⟨true, 0x1FDD, 0x1F59⟩
  | .srdT0F9 => ⟨true, 0x1FFF, 0x1F3C⟩
  | .srdT0FAFB _ => ⟨true, 0x1FDF, 0x1F5C⟩
  | .srdTX1F9 _ => ⟨true, 0x1FFD, 0x1F3D⟩
  | .srdTX1FAFB _ _ => ⟨true, 0x1FDD, 0x1F5D⟩
  | .srdTX2F9 => ⟨true, 0x1FFF, 0x1F3E⟩
  | .srdTX2FAFB _ => ⟨true, 0x1FDF, 0x1F5E⟩
  | .swrLF9 _ => ⟨true, 0x1FFC, 0x1F20⟩
  | .swrLFAFB _ _ => ⟨true, 0x1FDC, 0x1F40⟩
  | .swrB0F9 => ⟨true, 0x1FFF, 0x1F24⟩
  | .swrB0FAFB _ => ⟨true, 0x1FDF, 0x1F44⟩
  | .swrB1F9 => ⟨true, 0x1FFF, 0x1F25⟩
  | .swrB1FAFB _ => ⟨true, 0x1FDF, 0x1F45⟩
  | .swrB2F9 => ⟨true, 0x1FFF, 0x1F26⟩
  | .swrB2FAFB _ => ⟨true, 0x1FDF, 0x1F46⟩
  | .swrB3F9 => ⟨true, 0x1FFF, 0x1F27⟩
  | .swrB3FAFB _ => ⟨true, 0x1FDF, 0x1F47⟩
  | .swrW0F9 => ⟨true, 0x1FFF, 0x1F28⟩
  | .swrW0FAFB _ => ⟨true, 0x1FDF, 0x1F48⟩
  | .swrW2F9 => ⟨true, 0x1FFF, 0x1F2A⟩
  | .swrW2FAFB _ => ⟨true, 0x1FDF, 0x1F4A⟩
  | .swrWXF9 _ => ⟨true, 0x1FFD, 0x1F29⟩
  | .swrWXFAFB _ _ => ⟨true, 0x1FDD, 0x1F49⟩
  | .swrT0F9 => ⟨true, 0x1FFF, 0x1F2C⟩
  | .swrT0FAFB _ => ⟨true, 0x1FDF, 0x1F4C⟩
  | .swrTX1F9 _ => ⟨true, 0x1FFD, 0x1F2D⟩
  | .swrTX1FAFB _ _ => ⟨true, 0x1FDD, 0x1F4D⟩
  | .swrTX2F9 => ⟨true, 0x1FFF, 0x1F2E⟩
  | .swrTX2FAFB _ => ⟨true, 0x1FDF, 0x1F4E⟩
  | .dmaRd => ⟨false, 0x7, 0x6⟩
  | .dmaWr => ⟨false, 0x7, 0x7⟩

/-- The 44 rows of format `SD13`, in the table's order. -/
def sd13Rows : List TableRow :=
  [⟨true, 0x1FFC, 0x1F30⟩,
   ⟨true, 0x1FDC, 0x1F50⟩,
   ⟨true, 0x1FFF, 0x1F34⟩,
   ⟨true, 0x1FDF, 0x1F54⟩,
   ⟨true, 0x1FFF, 0x1F35⟩,
   ⟨true, 0x1FDF, 0x1F55⟩,
   ⟨true, 0x1FFF, 0x1F36⟩,
   ⟨true, 0x1FDF, 0x1F56⟩,
   ⟨true, 0x1FFF, 0x1F37⟩,
   ⟨true, 0x1FDF, 0x1F57⟩,
   ⟨true, 0x1FFF, 0x1F38⟩,
   ⟨true, 0x1FDF, 0x1F58⟩,
   ⟨true, 0x1FFF, 0x1F3A⟩,
   ⟨true, 0x1FDF, 0x1F5A⟩,
   ⟨true, 0x1FFD, 0x1F39⟩,
   ⟨true, 0x1FDD, 0x1F59⟩,
   ⟨true, 0x1FFF, 0x1F3C⟩,
   ⟨true, 0x1FDF, 0x1F5C⟩,
   ⟨true, 0x1FFD, 0x1F3D⟩,
   ⟨true, 0x1FDD, 0x1F5D⟩,
   ⟨true, 0x1FFF, 0x1F3E⟩,
   ⟨true, 0x1FDF, 0x1F5E⟩]
  ++
  [⟨true, 0x1FFC, 0x1F20⟩,
   ⟨true, 0x1FDC, 0x1F40⟩,
   ⟨true, 0x1FFF, 0x1F24⟩,
   ⟨true, 0x1FDF, 0x1F44⟩,
   ⟨true, 0x1FFF, 0x1F25⟩,
   ⟨true, 0x1FDF, 0x1F45⟩,
   ⟨true, 0x1FFF, 0x1F26⟩,
   ⟨true, 0x1FDF, 0x1F46⟩,
   ⟨true, 0x1FFF, 0x1F27⟩,
   ⟨true, 0x1FDF, 0x1F47⟩,
   ⟨true, 0x1FFF, 0x1F28⟩,
   ⟨true, 0x1FDF, 0x1F48⟩,
   ⟨true, 0x1FFF, 0x1F2A⟩,
   ⟨true, 0x1FDF, 0x1F4A⟩,
   ⟨true, 0x1FFD, 0x1F29⟩,
   ⟨true, 0x1FDD, 0x1F49⟩,
   ⟨true, 0x1FFF, 0x1F2C⟩,
   ⟨true, 0x1FDF, 0x1F4C⟩,
   ⟨true, 0x1FFD, 0x1F2D⟩,
   ⟨true, 0x1FDD, 0x1F4D⟩,
   ⟨true, 0x1FFF, 0x1F2E⟩,
   ⟨true, 0x1FDF, 0x1F4E⟩]

end Sys2Proof
end

