-- ==== Sys2Proof/Machine/State.lean ====
section
/-! DEFINITION. The state of the bridge core (10_state.md R37 to R42), the inputs of a tick (R31 to R35),
the fault flags (60_exceptions.md R296) and the state right after reset (R49, R50). -/

namespace Sys2Proof.Machine

/-! ## State sets (R42) -/

/-- The states of the Slave Responder. -/
inductive SState where
  | idle
  | readRequest
  | readDrive
  | writeWaitData
  | writeRequest
  | writeAck
deriving DecidableEq, Repr

/-- The states of the Bus Arbiter. -/
inductive AState where
  | idle
  | request
  | waitFree
  | own
deriving DecidableEq, Repr

/-- The states of the Master Transfer Engine. -/
inductive MState where
  | idle
  | driveAddress
  | assertStrobes
  | waitAck
  | complete
deriving DecidableEq, Repr

/-! ## Registers, by the component that owns them (R37, R41) -/

/-- The Synchronizer Bank: two stages per group and the edge register (R38, R140, R144). -/
structure Sync where
  s1 : Lines
  s2 : Lines
  /-- `as_prev` -/
  asPrev : Bool
deriving DecidableEq, Repr

/-- The Slave Responder: its state, the Slave Cycle Context and `rdata` (R37, R39). -/
structure SlaveRegs where
  S : SState
  ctxAdr : WordAddr
  /-- 1 = read -/
  ctxDir : Bool
  ctxMask : LaneMask
  rdata : Word
deriving DecidableEq, Repr

/-- The Master Transfer Engine: its state, the Master Cycle Context and `mrdata` (R37, R40). -/
structure MasterRegs where
  M : MState
  mctxAdr : WordAddr
  /-- 1 = DMA write -/
  mctxWe : Bool
  mctxWdata : Word
  mrdata : Word
deriving DecidableEq, Repr

/-- The sticky fault flags a model keeps (R296). They stop nothing. -/
structure FaultFlags where
  /-- `F1`, both data drivers of the block in one tick (R276) -/
  contention : Bool
  /-- `F2`, the block and the environment on one tri-state line (R281) -/
  busFight : Bool
deriving DecidableEq, Repr

/-- What the environment presents in one tick (R31 to R35). A tri-state line is `some v` when the
environment drives it and `none` when it does not; a wired-AND line is 1 when the environment does not
pull it (R281). -/
structure Inputs where
  rst : Bool
  a : Option Addr
  d : Option Word
  asN : Option Bool
  dsN : Option Bool
  rw : Option Bool
  siz : Option SizeCode
  dsackN : DsackLines
  brN : Bool
  bgN : Bool
  bgackN : Bool
  srdAck : Bool
  srdDat : Word
  swrAck : Bool
  dmaCyc : Bool
  dmaStb : Bool
  dmaWe : Bool
  dmaAdr : WordAddr
  /-- read by no rule (R114, R263) -/
  dmaSel : LaneMask
  dmaDat : Word
  /-- The metastability draw of the tick, a set bit samples the old level (R147); `none` leaves the draw to
  `Config.late` (log 6). -/
  late : Option Lines
deriving DecidableEq, Repr

/-- The whole state at the start of a tick: the block's registers (R37), the fault flags (R296), the inputs
of the tick and of later ticks (log 2), and the model's own record of the last wire and of the tick's
number (log 7). -/
structure State where
  sync : Sync
  slave : SlaveRegs
  A : AState
  master : MasterRegs
  faults : FaultFlags
  inputs : Inputs
  script : List Inputs
  lastWire : Lines
  draws : Nat
deriving DecidableEq, Repr

/-- There is no reason to stop with a fault, so this type has no constructor: the block raises nothing
(R290), and the two model-level faults of R296 are flags that "a faulted state is not a final state"
keeps apart from a stop. Safe: no run is cut short. -/
inductive Fault where
deriving DecidableEq, Repr

/-- Reasons to refuse an operation. -/
inductive Refusal where
  /-- Raised by an arm of `exec` for an operation that has no meaning yet; no arm raises it. Safe. -/
  | notModelled (mnemonic : String)
deriving DecidableEq, Repr

/-! ## Reset -/

/-- The levels of the lines when no agent drives them (R122), with `x` for `a`, `d` and `siz`. -/
def idleLines (x : Lines) : Lines :=
  { a := x.a, d := x.d, asN := true, dsN := true, rw := true, siz := x.siz,
    dsackN := 0b11#2, bgN := true, bgackN := true }

/-- The environment at rest: nothing driven, nothing requested, `rst` = 0 (R120, R122). The data of the
inactive internal inputs is not stated; it is named in Config (log 14). -/
def Inputs.idle : Inputs :=
  { rst := false, a := none, d := none, asN := none, dsN := none, rw := none, siz := none,
    dsackN := 0b11#2, brN := true, bgN := true, bgackN := true,
    srdAck := false, srdDat := Config.resetSrdDat, swrAck := false,
    dmaCyc := false, dmaStb := false, dmaWe := Config.resetDmaWe, dmaAdr := Config.resetDmaAdr,
    dmaSel := Config.resetDmaSel, dmaDat := Config.resetDmaDat, late := none }

/-- The machine in the first tick with `rst` = 0, after a reset of `RESET_MIN_TICKS` ticks with the lines at
their idle levels (R49, R50, R120, R321; 95_test_vectors.md section 0). Unspecified registers hold named
constants (log 4). -/
def State.reset : State :=
  { sync := { s1 := idleLines Config.resetStage1, s2 := idleLines Config.resetStage2, asPrev := true }
    slave := { S := .idle, ctxAdr := Config.resetCtxAdr, ctxDir := Config.resetCtxDir,
               ctxMask := Config.resetCtxMask, rdata := Config.resetRdata }
    A := .idle
    master := { M := .idle, mctxAdr := Config.resetMctxAdr, mctxWe := Config.resetMctxWe,
                mctxWdata := Config.resetMctxWdata, mrdata := Config.resetMrdata }
    faults := { contention := false, busFight := false }
    inputs := Inputs.idle
    script := []
    lastWire := idleLines Config.resetWire
    draws := 0 }

end Sys2Proof.Machine
end

