-- ==== Sys2Proof/Machine/Operands.lean ====
section
/-! DEFINITION. Operand forms: the lane mask (41_decoder.md R161), the descriptors as they are sampled
(30_encoding.md R110 to R114), and the lanes of a word (20_memory.md R88, R89). -/

namespace Sys2Proof.Machine

/-- The byte-lane mask of a size code and a byte offset (R161). Total; the fallback is no error (R163). -/
def lane (siz : SizeCode) (off : BitVec 2) : LaneMask :=
  match Config.sizeOf siz with
  | .long => 0b1111#4
  | .byte => 0b1000#4 >>> off.toNat
  | .word => if off = 0b00#2 then 0b1100#4 else if off = 0b10#2 then 0b0011#4 else 0b1111#4
  | .threeByte => if off = 0b00#2 then 0b1110#4 else 0b1111#4

/-- Window identifier, address bits [31:24] (R82, R111). -/
def winOf (a : Addr) : Win := a.extractLsb' 24 8

/-- Byte offset, address bits [1:0] (R111). -/
def offOf (a : Addr) : BitVec 2 := a.extractLsb' 0 2

/-- Internal word address of an external byte address, bits [31:2]; nothing is remapped (R83, R113). -/
def wordAddr (a : Addr) : WordAddr := a.extractLsb' 2 Config.iadrW

/-- External byte address of a DMA transfer (R85, R271). -/
def byteAddr (w : WordAddr) : Addr := w ++ 0b00#2

/-- The `SD13` descriptor as the stage-2 registers hold it (R111). -/
def State.sd13 (s : State) : BitVec 13 :=
  sd13Word (winOf s.sync.s2.a) s.sync.s2.rw s.sync.s2.siz (offOf s.sync.s2.a)

/-- The `DD3` descriptor as the `dma` inputs present it (R114). -/
def State.dd3 (s : State) : BitVec 3 := dd3Word s.inputs.dmaCyc s.inputs.dmaStb s.inputs.dmaWe

/-- The state in which the block samples the `SD13` descriptor `w` with the word offset `a[23:2]` = 0: `S`
is idle, the synchronized strobe has just fallen, and no reset is asserted (R110, R111, R145). -/
def State.withSD13 (s : State) (w : BitVec 13) : State :=
  { s with
    sync := { s.sync with
              s2 := { s.sync.s2 with a := sd13Win w ++ 0#22 ++ sd13Off w, rw := sd13Rw w,
                                     siz := sd13Siz w, asN := false }
              asPrev := true }
    slave := { s.slave with S := .idle }
    inputs := { s.inputs with rst := false } }

/-- The state in which the block samples the `DD3` descriptor `w` with a zero address and zero data: `M` is
idle, the bus is owned, and no reset is asserted (R110, R114). -/
def State.withDD3 (s : State) (w : BitVec 3) : State :=
  { s with
    A := .own
    master := { s.master with M := .idle }
    inputs := { s.inputs with rst := false, dmaCyc := dd3Cyc w, dmaStb := dd3Stb w, dmaWe := dd3We w,
                              dmaAdr := 0#30, dmaSel := 0#4, dmaDat := 0#32 } }

/-- The bits of a data word that a lane mask selects: lane i is bits [8i+7:8i] (R88, R89). -/
def laneBits (m : LaneMask) : Word :=
  (if m.getLsbD 3 then 0xFF#8 else 0#8) ++ (if m.getLsbD 2 then 0xFF#8 else 0#8) ++
    (if m.getLsbD 1 then 0xFF#8 else 0#8) ++ (if m.getLsbD 0 then 0xFF#8 else 0#8)

/-- What a word becomes when the selected lanes are written from `new` (R91, R304(b)). -/
def mergeLanes (m : LaneMask) (old new : Word) : Word :=
  (old &&& ~~~ laneBits m) ||| (new &&& laneBits m)

end Sys2Proof.Machine
end

