-- ==== Sys2Proof/Machine/Flags.lean ====
section
/-! DEFINITION. The block has no flags (10_state.md R44); this file holds its combinational status
predicates, each a pure function of the tick's registers and inputs, and the model-level conditions. -/

namespace Sys2Proof.Machine

/-- Selection predicate `sel` (R160): address bits [31:24] in `SLOT_IDS`, nothing else. -/
def sel (s : State) : Bool := Config.slotIds.contains (winOf s.sync.s2.a)

/-- Falling-edge event of the synchronized strobe (R145). -/
def fall (s : State) : Bool := s.sync.asPrev && !s.sync.s2.asN

/-- External abort condition (R181). -/
def withdrawn (s : State) : Bool := s.sync.s2.asN

/-- Cycle-start condition (R182). -/
def start (s : State) : Bool := s.slave.S == .idle && fall s && sel s

/-- Pending DMA request (R230). -/
def req (s : State) : Bool := s.inputs.dmaCyc && s.inputs.dmaStb

/-- Grant observed (R231). -/
def granted (s : State) : Bool := !s.sync.s2.bgN

/-- Bus observably idle (R233). -/
def busIdle (s : State) : Bool :=
  s.sync.s2.asN && s.sync.s2.dsackN == 0b11#2 && s.sync.s2.bgackN

/-- Ownership Token (R237). -/
def own (s : State) : Bool := s.A == .own

/-- Transfer-start condition (R251). -/
def masterStarts (s : State) : Bool := s.master.M == .idle && s.A == .own && req s

/-- External acknowledge observed, either line (R255). -/
def ackSeen (s : State) : Bool := s.sync.s2.dsackN != 0b11#2

/-- The `SD13` descriptor is sampled in this tick (R110). -/
def samplesSD13 (s : State) : Bool := s.slave.S == .idle && fall s

/-- The `DD3` descriptor is sampled in this tick (R110). -/
def samplesDD3 (s : State) : Bool := s.master.M == .idle && s.A == .own

/-- The slave operation sampled in this tick, if any (R110, R115, R117). -/
def slaveOp (s : State) : Option Instr :=
  if samplesSD13 s then (decodeSD13 s.sd13).toOption else none

/-- The DMA operation sampled in this tick, if any (R110, R116, R118). -/
def dmaOp (s : State) : Option Instr :=
  if samplesDD3 s then (decodeDD3 s.dd3).toOption else none

end Sys2Proof.Machine
end

