-- ==== Sys2Proof/Machine/Outputs.lean ====
section
/-! DEFINITION. The outputs, functions of the registers alone (10_state.md R47): the internal-bus outputs
(R194, R195, R261), the Output Direction Multiplexer (45_output_mux.md R270 to R280) and the ownership
report (R36). -/

namespace Sys2Proof.Machine

/-- Every output port of the block (R32 to R36). A `true` enable means the block drives the line. -/
structure Outputs where
  aOe : Bool
  aO : Addr
  dOe : Bool
  dO : Word
  /-- one enable for `as_n`, `ds_n`, `rw`, `siz` (R272) -/
  ctlOe : Bool
  asNO : Bool
  dsNO : Bool
  rwO : Bool
  sizO : SizeCode
  dsackOe : Bool
  dsackNO : DsackLines
  brOe : Bool
  brNO : Bool
  bgackOe : Bool
  bgackNO : Bool
  srdCycO : Bool
  srdStbO : Bool
  srdWeO : Bool
  srdAdrO : WordAddr
  srdSelO : LaneMask
  swrCycO : Bool
  swrStbO : Bool
  swrWeO : Bool
  swrAdrO : WordAddr
  swrSelO : LaneMask
  swrDatO : Word
  dmaAckO : Bool
  dmaDatO : Word
  ownO : Bool
deriving DecidableEq, Repr

/-- Acknowledge drive request of the Slave Responder (R196). -/
def sAck (v : SlaveRegs) : Bool := v.S == .readDrive || v.S == .writeAck

/-- Data drive request of the Slave Responder (R197). -/
def sDrive (v : SlaveRegs) : Bool := v.S == .readDrive

/-- Data drive request of the Master Engine (R260, R273). -/
def mDrive (m : MasterRegs) : Bool := m.M != .idle && m.mctxWe

/-- Contention of the block's two data drivers, fault `F1` (R276). -/
def contention (s : State) : Bool := mDrive s.master && sDrive s.slave

/-- The strobes are driven asserted (R260, R272). -/
def strobesAsserted (m : MasterRegs) : Bool := m.M == .assertStrobes || m.M == .waitAck

/-- The outputs of the tick as a function of the registers (R47). No argument is an input port. -/
def outOf (sync : Sync) (v : SlaveRegs) (A : AState) (m : MasterRegs) : Outputs :=
  { -- R271
    aOe := m.M != .idle
    aO := byteAddr m.mctxAdr
    -- R273; `d_o` undriven is any value
    dOe := mDrive m || sDrive v
    dO := if mDrive m then m.mctxWdata else if sDrive v then v.rdata else Config.undrivenData
    -- R272, R260
    ctlOe := m.M != .idle
    asNO := !strobesAsserted m
    dsNO := !strobesAsserted m
    rwO := !m.mctxWe
    sizO := Config.sizeCode .long
    -- R278
    dsackOe := sAck v
    dsackNO := 0b00#2
    -- R238, R279
    brOe := A != .idle
    brNO := false
    -- R239, R280
    bgackOe := A == .own
    bgackNO := false
    -- R194
    srdCycO := v.S == .readRequest
    srdStbO := v.S == .readRequest
    srdWeO := false
    srdAdrO := v.ctxAdr
    srdSelO := v.ctxMask
    -- R195
    swrCycO := v.S == .writeRequest
    swrStbO := v.S == .writeRequest
    swrWeO := true
    swrAdrO := v.ctxAdr
    swrSelO := v.ctxMask
    swrDatO := sync.s2.d
    -- R261
    dmaAckO := m.M == .complete
    dmaDatO := m.mrdata
    -- R36, R237
    ownO := A == .own }

/-- The outputs during the tick. -/
def out (s : State) : Outputs := outOf s.sync s.slave s.A s.master

/-- One internal transfer as the internal slave sees it. -/
structure Transfer where
  adr : WordAddr
  sel : LaneMask
  dat : Word
deriving DecidableEq, Repr

/-- The internal read performed in this tick, with the data it was answered with (R15, R96). -/
def performedRead (s : State) : Option Transfer :=
  if (out s).srdCycO && (out s).srdStbO && s.inputs.srdAck then
    some ⟨(out s).srdAdrO, (out s).srdSelO, s.inputs.srdDat⟩
  else none

/-- The internal write performed in this tick, also when the cycle is aborted in it (R15, R96, R99). -/
def performedWrite (s : State) : Option Transfer :=
  if (out s).swrCycO && (out s).swrStbO && s.inputs.swrAck then
    some ⟨(out s).swrAdrO, (out s).swrSelO, (out s).swrDatO⟩
  else none

end Sys2Proof.Machine
end

