-- ==== Sys2Proof/Machine/Wires.lean ====
section
/-! DEFINITION. The wires: how the block's drive and the environment's resolve to the observed value of
each line (45_output_mux.md R281), and what a synchronizer sample yields (40_synchronizer.md R147). -/

namespace Sys2Proof.Machine

/-- A tri-state line: the one driver's value; `idle` if nobody drives; a draw if both do (R281). -/
def resolveTri {α : Type} (oe : Bool) (v : α) (env : Option α) (idle drawn : α) : α :=
  match oe, env with
  | true, none => v
  | false, some x => x
  | false, none => idle
  | true, some _ => drawn

/-- Both sides drive a tri-state line (R281). -/
def fought {α : Type} (oe : Bool) (env : Option α) : Bool := oe && env.isSome

/-- A wired-AND line: 0 if any side drives 0 (R281). -/
def resolveAnd (oe : Bool) (v env : Bool) : Bool := (!oe || v) && env

/-- Both acknowledge lines, each wired-AND (R281). -/
def resolveAck (oe : Bool) (v env : DsackLines) : DsackLines := if oe then v &&& env else env

/-- The observed value of every synchronized line in the tick (R149, R281). -/
def wires (s : State) : Lines :=
  let o := out s
  let x := Config.drawn s.draws
  { a := resolveTri o.aOe o.aO s.inputs.a x.a x.a
    d := resolveTri o.dOe o.dO s.inputs.d x.d x.d
    asN := resolveTri o.ctlOe o.asNO s.inputs.asN true x.asN
    dsN := resolveTri o.ctlOe o.dsNO s.inputs.dsN true x.dsN
    rw := resolveTri o.ctlOe o.rwO s.inputs.rw true x.rw
    siz := resolveTri o.ctlOe o.sizO s.inputs.siz x.siz x.siz
    dsackN := resolveAck o.dsackOe o.dsackNO s.inputs.dsackN
    bgN := s.inputs.bgN
    bgackN := resolveAnd o.bgackOe o.bgackNO s.inputs.bgackN }

/-- The bus-request wire, which the block does not observe (R281). -/
def brWire (s : State) : Bool := resolveAnd (out s).brOe (out s).brNO s.inputs.brN

/-- The block and the environment drive one tri-state line in this tick, fault `F2` (R296). -/
def busFight (s : State) : Bool :=
  let o := out s
  fought o.aOe s.inputs.a || fought o.dOe s.inputs.d || fought o.ctlOe s.inputs.asN ||
    fought o.ctlOe s.inputs.dsN || fought o.ctlOe s.inputs.rw || fought o.ctlOe s.inputs.siz

/-- The sample of one bit: a bit that changes yields its old or its new level, as the draw says; a bit that
does not change yields its level (R147). -/
def sampleBit (late old new : Bool) : Bool :=
  if old = new then new else if late then old else new

/-- The sample of a group, bit by bit (R146, R147). -/
def sampleVec {w : Nat} (late old new : BitVec w) : BitVec w :=
  if old = new then new else (new &&& ~~~ late) ||| (old &&& late)

/-- The sample of every line. -/
def sampleLines (late old new : Lines) : Lines :=
  { a := sampleVec late.a old.a new.a
    d := sampleVec late.d old.d new.d
    asN := sampleBit late.asN old.asN new.asN
    dsN := sampleBit late.dsN old.dsN new.dsN
    rw := sampleBit late.rw old.rw new.rw
    siz := sampleVec late.siz old.siz new.siz
    dsackN := sampleVec late.dsackN old.dsackN new.dsackN
    bgN := sampleBit late.bgN old.bgN new.bgN
    bgackN := sampleBit late.bgackN old.bgackN new.bgackN }

/-- The draw of the tick: the one the inputs pin, else the free one (R147; log 6). -/
def lateOf (s : State) : Lines := s.inputs.late.getD (Config.late s.draws)

/-- What stage 1 samples at the edge that ends the tick (R140, R147). -/
def sampled (s : State) : Lines := sampleLines (lateOf s) s.lastWire (wires s)

/-- The draw that samples every change at once (R121). -/
def promptDraw : Lines :=
  { a := 0#32, d := 0#32, asN := false, dsN := false, rw := false, siz := 0#2, dsackN := 0#2,
    bgN := false, bgackN := false }

end Sys2Proof.Machine
end

