-- ==== Sys2Proof/Machine/Ops.lean ====
section
/-! DEFINITION. The shared operations: what each component's registers become at the edge that ends a
tick, all read from the one state of the tick (10_state.md R46), and the tick that puts them together.

The block has no memory and takes no exception: there is no trap entry and no return (60_exceptions.md
R290, R299). The nearest thing is the external abort `E1`, one operation `slaveAbort` (R192). -/

namespace Sys2Proof.Machine

/-! ## Synchronizer Bank -/

/-- Stage update and edge register, whatever `rst` is (R140, R144). -/
def syncNext (s : State) : Sync :=
  { s1 := sampled s, s2 := s.sync.s1, asPrev := s.sync.s2.asN }

/-! ## Slave Responder -/

/-- The strobe was withdrawn: `S` returns to idle and nothing else is written (R186, R192). -/
def slaveAbort (v : SlaveRegs) : SlaveRegs := { v with S := .idle }

/-- Cycle start in direction `read` with lane mask `mask`: the branch of R183 and the context latch of R184. -/
def slaveBegin (read : Bool) (mask : LaneMask) (s : State) : SlaveRegs :=
  { s.slave with
    S := if read then .readRequest else .writeWaitData
    ctxAdr := wordAddr s.sync.s2.a
    ctxDir := read
    ctxMask := mask }

/-- The tick of the Slave Responder in which no cycle starts (R185 to R193; in idle it stays, R183). Abort
is tested first in every state (R193). -/
def slaveContinue (s : State) : SlaveRegs :=
  match s.slave.S with
  | .idle => s.slave
  | .readRequest =>
    if withdrawn s then slaveAbort s.slave
    else if s.inputs.srdAck then { s.slave with S := .readDrive, rdata := s.inputs.srdDat }
    else s.slave
  | .readDrive => if withdrawn s then slaveAbort s.slave else s.slave
  | .writeWaitData =>
    if withdrawn s then slaveAbort s.slave
    else if s.sync.s2.dsN then s.slave
    else { s.slave with S := .writeRequest }
  | .writeRequest =>
    if withdrawn s then slaveAbort s.slave
    else if s.inputs.swrAck then { s.slave with S := .writeAck }
    else s.slave
  | .writeAck => if withdrawn s then slaveAbort s.slave else s.slave

/-- The Slave Responder's registers after the tick (R183, R184, with the mask of R161). -/
def slaveNext (s : State) : SlaveRegs :=
  if start s then slaveBegin s.sync.s2.rw (lane s.sync.s2.siz (offOf s.sync.s2.a)) s
  else slaveContinue s

/-! ## Bus Arbiter -/

/-- `OWN` is released only while the Master Engine is in `IDLE` or `COMPLETE` (R236). -/
def releasable (m : MState) : Bool := m == .idle || m == .complete

/-- The Bus Arbiter's transition table, first matching row (R234 to R236). -/
def arbNext (s : State) : AState :=
  match s.A with
  | .idle => if req s then .request else .idle
  | .request => if !req s then .idle else if granted s then .waitFree else .request
  | .waitFree => if !req s then .idle else if busIdle s then .own else .waitFree
  | .own => if !req s && releasable s.master.M then .idle else .own

/-! ## Master Transfer Engine -/

/-- Transfer start in direction `we`: the Master Cycle Context latch (R251, R252). -/
def masterBegin (we : Bool) (s : State) : MasterRegs :=
  { s.master with
    M := .driveAddress
    mctxAdr := s.inputs.dmaAdr
    mctxWe := we
    mctxWdata := s.inputs.dmaDat }

/-- The acknowledge is observed: `COMPLETE`, and a read captures the data of the same sample (R255, R256). -/
def masterCapture (s : State) : MasterRegs :=
  { s.master with
    M := .complete
    mrdata := if s.master.mctxWe then s.master.mrdata else s.sync.s2.d }

/-- The tick of the Master Engine in which no transfer starts (R250, R253 to R259). -/
def masterContinue (s : State) : MasterRegs :=
  match s.master.M with
  | .idle => s.master
  | .driveAddress => { s.master with M := .assertStrobes }
  | .assertStrobes => { s.master with M := .waitAck }
  | .waitAck => if ackSeen s then masterCapture s else s.master
  | .complete => { s.master with M := .idle }

/-- The Master Engine's registers after the tick (R250). -/
def masterNext (s : State) : MasterRegs :=
  if masterStarts s then masterBegin s.inputs.dmaWe s else masterContinue s

/-! ## The tick -/

/-- The flags are set in any tick whose condition holds and never cleared, not even at reset (R296). -/
def faultsNext (s : State) : FaultFlags :=
  { contention := s.faults.contention || contention s
    busFight := s.faults.busFight || busFight s }

/-- The inputs of the next tick: the script's next line, or the same values when it is empty (R120; log 2). -/
def inputsNext (s : State) : Inputs := s.script.head?.getD s.inputs

/-- A reset edge forces `S` to idle and writes no other register (R49, R320). -/
def resetSlave (rst : Bool) (v : SlaveRegs) : SlaveRegs := if rst then { v with S := .idle } else v

/-- A reset edge forces `A` to idle (R49, R320). -/
def resetArb (rst : Bool) (A : AState) : AState := if rst then .idle else A

/-- A reset edge forces `M` to idle and writes no other register (R49, R320). -/
def resetMaster (rst : Bool) (m : MasterRegs) : MasterRegs := if rst then { m with M := .idle } else m

/-- The state after the tick, given what the Slave Responder's and the Master Engine's own rules assign: every
component's rule on the state of the tick, then the reset override (R46, R320). -/
def tickWith (v : SlaveRegs) (m : MasterRegs) (s : State) : State :=
  { sync := syncNext s
    slave := resetSlave s.inputs.rst v
    A := resetArb s.inputs.rst (arbNext s)
    master := resetMaster s.inputs.rst m
    faults := faultsNext s
    inputs := inputsNext s
    script := s.script.tail
    lastWire := wires s
    draws := s.draws + 1 }

/-- `Next_rst` of R320 over the component rules: the whole block's step, without looking at descriptors. -/
def tick (s : State) : State := tickWith (slaveNext s) (masterNext s) s

/-- The tick that samples no operation: no cycle and no transfer starts (R110, R117, R118). -/
def quietTick (s : State) : State := tickWith (slaveContinue s) (masterContinue s) s

/-! ## The two kinds of operation at the tick that samples them -/

/-- The tick that samples a slave operation of direction `read` and lane mask `mask`: if the cycle starts
(R182) the Slave Responder begins it, else it follows its state rules (R110). The other components take
their own rules, the Master Engine's start among them (R104, R298). -/
def slaveOperation (read : Bool) (mask : LaneMask) (s : State) : Host.Outcome State Fault Refusal :=
  .next (tickWith (if start s then slaveBegin read mask s else slaveContinue s) (masterNext s) s)

/-- The tick that samples a DMA operation of direction `we` (R251): if the transfer starts the Master Engine
begins it, else it follows its state rules. The Slave Responder takes its own rules. -/
def dmaOperation (we : Bool) (s : State) : Host.Outcome State Fault Refusal :=
  .next (tickWith (slaveNext s) (if masterStarts s then masterBegin we s else masterContinue s) s)

end Sys2Proof.Machine
end

