-- ==== Sys2Proof/Machine/Dma.lean ====
section
/-! DEFINITION. The DMA operations (44_master_engine.md R265, R266). -/

namespace Sys2Proof.Machine

/-- `DMA_RD` (R265): one external read, the context latched with `mctx_we` = 0. -/
def execDmaRd (s : State) : Host.Outcome State Fault Refusal := dmaOperation false s

/-- `DMA_WR` (R266): one external write, the context latched with `mctx_we` = 1. -/
def execDmaWr (s : State) : Host.Outcome State Fault Refusal := dmaOperation true s

end Sys2Proof.Machine
end

