-- ==== Sys2Proof/Machine/SlaveRead.lean ====
section
/-! DEFINITION. The slave read operations (42_slave_responder.md R200 to R210): each starts the common sequence
`SlaveRead(m)` of R199 with its own lane mask m. The offset is dropped (R164) and the window reaches the
internal address through `a_s2` (R83), so neither field is read again here. -/

namespace Sys2Proof.Machine

/-- `SRD.L@F9` (R200): `SlaveRead(0b1111)`. -/
def execSrdLF9 (_off : BitVec 2) (s : State) : Host.Outcome State Fault Refusal :=
  slaveOperation true 0b1111#4 s

/-- `SRD.L@FA-FB` (R200): `SlaveRead(0b1111)`. -/
def execSrdLFAFB (_win : Win) (_off : BitVec 2) (s : State) : Host.Outcome State Fault Refusal :=
  slaveOperation true 0b1111#4 s

/-- `SRD.B0@F9` (R201): `SlaveRead(0b1000)`. -/
def execSrdB0F9 (s : State) : Host.Outcome State Fault Refusal :=
  slaveOperation true 0b1000#4 s

/-- `SRD.B0@FA-FB` (R201): `SlaveRead(0b1000)`. -/
def execSrdB0FAFB (_win : Win) (s : State) : Host.Outcome State Fault Refusal :=
  slaveOperation true 0b1000#4 s

/-- `SRD.B1@F9` (R202): `SlaveRead(0b0100)`. -/
def execSrdB1F9 (s : State) : Host.Outcome State Fault Refusal :=
  slaveOperation true 0b0100#4 s

/-- `SRD.B1@FA-FB` (R202): `SlaveRead(0b0100)`. -/
def execSrdB1FAFB (_win : Win) (s : State) : Host.Outcome State Fault Refusal :=
  slaveOperation true 0b0100#4 s

/-- `SRD.B2@F9` (R203): `SlaveRead(0b0010)`. -/
def execSrdB2F9 (s : State) : Host.Outcome State Fault Refusal :=
  slaveOperation true 0b0010#4 s

/-- `SRD.B2@FA-FB` (R203): `SlaveRead(0b0010)`. -/
def execSrdB2FAFB (_win : Win) (s : State) : Host.Outcome State Fault Refusal :=
  slaveOperation true 0b0010#4 s

/-- `SRD.B3@F9` (R204): `SlaveRead(0b0001)`. -/
def execSrdB3F9 (s : State) : Host.Outcome State Fault Refusal :=
  slaveOperation true 0b0001#4 s

/-- `SRD.B3@FA-FB` (R204): `SlaveRead(0b0001)`. -/
def execSrdB3FAFB (_win : Win) (s : State) : Host.Outcome State Fault Refusal :=
  slaveOperation true 0b0001#4 s

/-- `SRD.W0@F9` (R205): `SlaveRead(0b1100)`. -/
def execSrdW0F9 (s : State) : Host.Outcome State Fault Refusal :=
  slaveOperation true 0b1100#4 s

/-- `SRD.W0@FA-FB` (R205): `SlaveRead(0b1100)`. -/
def execSrdW0FAFB (_win : Win) (s : State) : Host.Outcome State Fault Refusal :=
  slaveOperation true 0b1100#4 s

/-- `SRD.W2@F9` (R206): `SlaveRead(0b0011)`. -/
def execSrdW2F9 (s : State) : Host.Outcome State Fault Refusal :=
  slaveOperation true 0b0011#4 s

/-- `SRD.W2@FA-FB` (R206): `SlaveRead(0b0011)`. -/
def execSrdW2FAFB (_win : Win) (s : State) : Host.Outcome State Fault Refusal :=
  slaveOperation true 0b0011#4 s

/-- `SRD.WX@F9` (R207): `SlaveRead(0b1111)`. -/
def execSrdWXF9 (_off : BitVec 2) (s : State) : Host.Outcome State Fault Refusal :=
  slaveOperation true 0b1111#4 s

/-- `SRD.WX@FA-FB` (R207): `SlaveRead(0b1111)`. -/
def execSrdWXFAFB (_win : Win) (_off : BitVec 2) (s : State) : Host.Outcome State Fault Refusal :=
  slaveOperation true 0b1111#4 s

/-- `SRD.T0@F9` (R208): `SlaveRead(0b1110)`. -/
def execSrdT0F9 (s : State) : Host.Outcome State Fault Refusal :=
  slaveOperation true 0b1110#4 s

/-- `SRD.T0@FA-FB` (R208): `SlaveRead(0b1110)`. -/
def execSrdT0FAFB (_win : Win) (s : State) : Host.Outcome State Fault Refusal :=
  slaveOperation true 0b1110#4 s

/-- `SRD.TX1@F9` (R209): `SlaveRead(0b1111)`. -/
def execSrdTX1F9 (_off : BitVec 2) (s : State) : Host.Outcome State Fault Refusal :=
  slaveOperation true 0b1111#4 s

/-- `SRD.TX1@FA-FB` (R209): `SlaveRead(0b1111)`. -/
def execSrdTX1FAFB (_win : Win) (_off : BitVec 2) (s : State) : Host.Outcome State Fault Refusal :=
  slaveOperation true 0b1111#4 s

/-- `SRD.TX2@F9` (R210): `SlaveRead(0b1111)`. -/
def execSrdTX2F9 (s : State) : Host.Outcome State Fault Refusal :=
  slaveOperation true 0b1111#4 s

/-- `SRD.TX2@FA-FB` (R210): `SlaveRead(0b1111)`. -/
def execSrdTX2FAFB (_win : Win) (s : State) : Host.Outcome State Fault Refusal :=
  slaveOperation true 0b1111#4 s

end Sys2Proof.Machine
end

