-- ==== Sys2Proof/Machine/SlaveWrite.lean ====
section
/-! DEFINITION. The slave write operations (42_slave_responder.md R211 to R221): each starts the common sequence
`SlaveWrite(m)` of R199 with its own lane mask m. The offset is dropped (R164) and the window reaches the
internal address through `a_s2` (R83), so neither field is read again here. -/

namespace Sys2Proof.Machine

/-- `SWR.L@F9` (R211): `SlaveWrite(0b1111)`. -/
def execSwrLF9 (_off : BitVec 2) (s : State) : Host.Outcome State Fault Refusal :=
  slaveOperation false 0b1111#4 s

/-- `SWR.L@FA-FB` (R211): `SlaveWrite(0b1111)`. -/
def execSwrLFAFB (_win : Win) (_off : BitVec 2) (s : State) : Host.Outcome State Fault Refusal :=
  slaveOperation false 0b1111#4 s

/-- `SWR.B0@F9` (R212): `SlaveWrite(0b1000)`. -/
def execSwrB0F9 (s : State) : Host.Outcome State Fault Refusal :=
  slaveOperation false 0b1000#4 s

/-- `SWR.B0@FA-FB` (R212): `SlaveWrite(0b1000)`. -/
def execSwrB0FAFB (_win : Win) (s : State) : Host.Outcome State Fault Refusal :=
  slaveOperation false 0b1000#4 s

/-- `SWR.B1@F9` (R213): `SlaveWrite(0b0100)`. -/
def execSwrB1F9 (s : State) : Host.Outcome State Fault Refusal :=
  slaveOperation false 0b0100#4 s

/-- `SWR.B1@FA-FB` (R213): `SlaveWrite(0b0100)`. -/
def execSwrB1FAFB (_win : Win) (s : State) : Host.Outcome State Fault Refusal :=
  slaveOperation false 0b0100#4 s

/-- `SWR.B2@F9` (R214): `SlaveWrite(0b0010)`. -/
def execSwrB2F9 (s : State) : Host.Outcome State Fault Refusal :=
  slaveOperation false 0b0010#4 s

/-- `SWR.B2@FA-FB` (R214): `SlaveWrite(0b0010)`. -/
def execSwrB2FAFB (_win : Win) (s : State) : Host.Outcome State Fault Refusal :=
  slaveOperation false 0b0010#4 s

/-- `SWR.B3@F9` (R215): `SlaveWrite(0b0001)`. -/
def execSwrB3F9 (s : State) : Host.Outcome State Fault Refusal :=
  slaveOperation false 0b0001#4 s

/-- `SWR.B3@FA-FB` (R215): `SlaveWrite(0b0001)`. -/
def execSwrB3FAFB (_win : Win) (s : State) : Host.Outcome State Fault Refusal :=
  slaveOperation false 0b0001#4 s

/-- `SWR.W0@F9` (R216): `SlaveWrite(0b1100)`. -/
def execSwrW0F9 (s : State) : Host.Outcome State Fault Refusal :=
  slaveOperation false 0b1100#4 s

/-- `SWR.W0@FA-FB` (R216): `SlaveWrite(0b1100)`. -/
def execSwrW0FAFB (_win : Win) (s : State) : Host.Outcome State Fault Refusal :=
  slaveOperation false 0b1100#4 s

/-- `SWR.W2@F9` (R217): `SlaveWrite(0b0011)`. -/
def execSwrW2F9 (s : State) : Host.Outcome State Fault Refusal :=
  slaveOperation false 0b0011#4 s

/-- `SWR.W2@FA-FB` (R217): `SlaveWrite(0b0011)`. -/
def execSwrW2FAFB (_win : Win) (s : State) : Host.Outcome State Fault Refusal :=
  slaveOperation false 0b0011#4 s

/-- `SWR.WX@F9` (R218): `SlaveWrite(0b1111)`. -/
def execSwrWXF9 (_off : BitVec 2) (s : State) : Host.Outcome State Fault Refusal :=
  slaveOperation false 0b1111#4 s

/-- `SWR.WX@FA-FB` (R218): `SlaveWrite(0b1111)`. -/
def execSwrWXFAFB (_win : Win) (_off : BitVec 2) (s : State) : Host.Outcome State Fault Refusal :=
  slaveOperation false 0b1111#4 s

/-- `SWR.T0@F9` (R219): `SlaveWrite(0b1110)`. -/
def execSwrT0F9 (s : State) : Host.Outcome State Fault Refusal :=
  slaveOperation false 0b1110#4 s

/-- `SWR.T0@FA-FB` (R219): `SlaveWrite(0b1110)`. -/
def execSwrT0FAFB (_win : Win) (s : State) : Host.Outcome State Fault Refusal :=
  slaveOperation false 0b1110#4 s

/-- `SWR.TX1@F9` (R220): `SlaveWrite(0b1111)`. -/
def execSwrTX1F9 (_off : BitVec 2) (s : State) : Host.Outcome State Fault Refusal :=
  slaveOperation false 0b1111#4 s

/-- `SWR.TX1@FA-FB` (R220): `SlaveWrite(0b1111)`. -/
def execSwrTX1FAFB (_win : Win) (_off : BitVec 2) (s : State) : Host.Outcome State Fault Refusal :=
  slaveOperation false 0b1111#4 s

/-- `SWR.TX2@F9` (R221): `SlaveWrite(0b1111)`. -/
def execSwrTX2F9 (s : State) : Host.Outcome State Fault Refusal :=
  slaveOperation false 0b1111#4 s

/-- `SWR.TX2@FA-FB` (R221): `SlaveWrite(0b1111)`. -/
def execSwrTX2FAFB (_win : Win) (s : State) : Host.Outcome State Fault Refusal :=
  slaveOperation false 0b1111#4 s

end Sys2Proof.Machine
end

