-- ==== Sys2Proof/Machine/Dispatch.lean ====
section
/-! DEFINITION. One arm per operation (30_encoding.md R115, R116). -/

namespace Sys2Proof.Machine

def exec (i : Instr) (s : State) : Host.Outcome State Fault Refusal :=
  match i with
  | .srdLF9 off => Sys2Proof.Machine.execSrdLF9 off s
  | .srdLFAFB win off => Sys2Proof.Machine.execSrdLFAFB win off s
  | .srdB0F9 => Sys2Proof.Machine.execSrdB0F9 s
  | .srdB0FAFB win => Sys2Proof.Machine.execSrdB0FAFB win s
  | .srdB1F9 => Sys2Proof.Machine.execSrdB1F9 s
  | .srdB1FAFB win => Sys2Proof.Machine.execSrdB1FAFB win s
  | .srdB2F9 => Sys2Proof.Machine.execSrdB2F9 s
  | .srdB2FAFB win => Sys2Proof.Machine.execSrdB2FAFB win s
  | .srdB3F9 => Sys2Proof.Machine.execSrdB3F9 s
  | .srdB3FAFB win => Sys2Proof.Machine.execSrdB3FAFB win s
  | .srdW0F9 => Sys2Proof.Machine.execSrdW0F9 s
  | .srdW0FAFB win => Sys2Proof.Machine.execSrdW0FAFB win s
  | .srdW2F9 => Sys2Proof.Machine.execSrdW2F9 s
  | .srdW2FAFB win => Sys2Proof.Machine.execSrdW2FAFB win s
  | .srdWXF9 off => Sys2Proof.Machine.execSrdWXF9 off s
  | .srdWXFAFB win off => Sys2Proof.Machine.execSrdWXFAFB win off s
  | .srdT0F9 => Sys2Proof.Machine.execSrdT0F9 s
  | .srdT0FAFB win => Sys2Proof.Machine.execSrdT0FAFB win s
  | .srdTX1F9 off => Sys2Proof.Machine.execSrdTX1F9 off s
  | .srdTX1FAFB win off => Sys2Proof.Machine.execSrdTX1FAFB win off s
  | .srdTX2F9 => Sys2Proof.Machine.execSrdTX2F9 s
  | .srdTX2FAFB win => Sys2Proof.Machine.execSrdTX2FAFB win s
  | .swrLF9 off => Sys2Proof.Machine.execSwrLF9 off s
  | .swrLFAFB win off => Sys2Proof.Machine.execSwrLFAFB win off s
  | .swrB0F9 => Sys2Proof.Machine.execSwrB0F9 s
  | .swrB0FAFB win => Sys2Proof.Machine.execSwrB0FAFB win s
  | .swrB1F9 => Sys2Proof.Machine.execSwrB1F9 s
  | .swrB1FAFB win => Sys2Proof.Machine.execSwrB1FAFB win s
  | .swrB2F9 => Sys2Proof.Machine.execSwrB2F9 s
  | .swrB2FAFB win => Sys2Proof.Machine.execSwrB2FAFB win s
  | .swrB3F9 => Sys2Proof.Machine.execSwrB3F9 s
  | .swrB3FAFB win => Sys2Proof.Machine.execSwrB3FAFB win s
  | .swrW0F9 => Sys2Proof.Machine.execSwrW0F9 s
  | .swrW0FAFB win => Sys2Proof.Machine.execSwrW0FAFB win s
  | .swrW2F9 => Sys2Proof.Machine.execSwrW2F9 s
  | .swrW2FAFB win => Sys2Proof.Machine.execSwrW2FAFB win s
  | .swrWXF9 off => Sys2Proof.Machine.execSwrWXF9 off s
  | .swrWXFAFB win off => Sys2Proof.Machine.execSwrWXFAFB win off s
  | .swrT0F9 => Sys2Proof.Machine.execSwrT0F9 s
  | .swrT0FAFB win => Sys2Proof.Machine.execSwrT0FAFB win s
  | .swrTX1F9 off => Sys2Proof.Machine.execSwrTX1F9 off s
  | .swrTX1FAFB win off => Sys2Proof.Machine.execSwrTX1FAFB win off s
  | .swrTX2F9 => Sys2Proof.Machine.execSwrTX2F9 s
  | .swrTX2FAFB win => Sys2Proof.Machine.execSwrTX2FAFB win s
  | .dmaRd => Sys2Proof.Machine.execDmaRd s
  | .dmaWr => Sys2Proof.Machine.execDmaWr s

end Sys2Proof.Machine
end

