-- ==== Sys2Proof/Machine/Step.lean ====
section
/-! DEFINITION. One step is one tick of the whole block (10_state.md R46): the operation whose descriptor the
tick samples, or a tick that samples none (30_encoding.md R110). -/

namespace Sys2Proof.Machine

/-- One tick. A slave and a DMA operation may be sampled in the same tick (R298); the meaning of each runs the
whole tick, the other's start included, so running either runs both (log 9). -/
def step (s : State) : Host.Outcome State Fault Refusal :=
  match slaveOp s with
  | some i => exec i s
  | none =>
    match dmaOp s with
    | some i => exec i s
    | none => .next (quietTick s)

/-- The state in which the next step samples the descriptor whose bits are `w`: a row of at most one byte is a
`DD3`, a longer one an `SD13`; the operands outside the descriptor are zero (log 11, log 12). -/
def State.withFetchWord (s : State) (nbits w : Nat) : State :=
  if nbits ≤ 8 then s.withDD3 (BitVec.ofNat 3 w) else s.withSD13 (BitVec.ofNat 13 w)

end Sys2Proof.Machine
end

