-- ==== Sys2Proof/Machine/Script.lean ====
section
/-! DEFINITION. The bus-script notation (30_encoding.md R120 to R122): lines, pseudo-instructions and
their expansions, `expect` lines, the state that runs a script from reset, and the end of its run
(60_exceptions.md R312). It is how the spec writes what an environment presents; the block itself has no
such input. -/

namespace Sys2Proof.Machine

/-- One `<name>=<value>` of a script line; `none` is the value `z` (R120). -/
inductive Change where
  | rst (v : Bool)
  | a (v : Option Addr)
  | d (v : Option Word)
  | asN (v : Option Bool)
  | dsN (v : Option Bool)
  | rw (v : Option Bool)
  | siz (v : Option SizeCode)
  | dsackN (v : Option DsackLines)
  | bgN (v : Option Bool)
  | bgackN (v : Option Bool)
  | srdAck (v : Bool)
  | srdDat (v : Word)
  | swrAck (v : Bool)
  | dmaCyc (v : Bool)
  | dmaStb (v : Bool)
  | dmaWe (v : Bool)
  | dmaAdr (v : WordAddr)
  | dmaSel (v : LaneMask)
  | dmaDat (v : Word)
deriving DecidableEq, Repr

/-- A line `@<t> <name>=<value> …` (R120). -/
structure ScriptLine where
  t : Nat
  changes : List Change
deriving DecidableEq, Repr

/-- The pseudo-instructions of R121, each with its tick. -/
inductive Pseudo where
  | raw (l : ScriptLine)
  | extRead (a : Addr) (siz : SizeCode) (t : Nat)
  | extWrite (a : Addr) (siz : SizeCode) (d : Word) (t : Nat)
  | extEnd (t : Nat)
  | srdReply (d : Word) (t : Nat)
  | swrReply (t : Nat)
  | dmaRead (w : WordAddr) (t : Nat)
  | dmaWrite (w : WordAddr) (d : Word) (t : Nat)
  | dmaDrop (t : Nat)
  | grant (t : Nat)
  | ungrant (t : Nat)
  | reset (t : Nat)
  | unreset (t : Nat)
  | extDsackData (d : Word) (t : Nat)
  | extDsack (t : Nat)
  | extUnack (t : Nat)
deriving DecidableEq, Repr

/-- The lines a pseudo-instruction stands for (R121). -/
def Pseudo.expand : Pseudo → List ScriptLine
  | .raw l => [l]
  | .extRead a siz t =>
    [⟨t, [.a (some a), .rw (some true), .siz (some siz)]⟩, ⟨t + 1, [.asN (some false), .dsN (some false)]⟩]
  | .extWrite a siz d t =>
    [⟨t, [.a (some a), .rw (some false), .siz (some siz), .d (some d)]⟩,
     ⟨t + 1, [.asN (some false)]⟩, ⟨t + 2, [.dsN (some false)]⟩]
  | .extEnd t => [⟨t, [.asN (some true), .dsN (some true)]⟩]
  | .srdReply d t => [⟨t, [.srdAck true, .srdDat d]⟩, ⟨t + 1, [.srdAck false]⟩]
  | .swrReply t => [⟨t, [.swrAck true]⟩, ⟨t + 1, [.swrAck false]⟩]
  | .dmaRead w t => [⟨t, [.dmaCyc true, .dmaStb true, .dmaWe false, .dmaAdr w]⟩]
  | .dmaWrite w d t => [⟨t, [.dmaCyc true, .dmaStb true, .dmaWe true, .dmaAdr w, .dmaDat d]⟩]
  | .dmaDrop t => [⟨t, [.dmaCyc false, .dmaStb false]⟩]
  | .grant t => [⟨t, [.bgN (some false)]⟩]
  | .ungrant t => [⟨t, [.bgN (some true)]⟩]
  | .reset t => [⟨t, [.rst true]⟩]
  | .unreset t => [⟨t, [.rst false]⟩]
  | .extDsackData d t => [⟨t, [.d (some d)]⟩, ⟨t + 1, [.dsackN (some 0b00#2)]⟩]
  | .extDsack t => [⟨t, [.dsackN (some 0b00#2)]⟩]
  | .extUnack t => [⟨t, [.dsackN none, .d none]⟩]

/-- An input takes a value; an undriven wired-AND or grant line is released (R120, R122). -/
def Change.apply (i : Inputs) : Change → Inputs
  | .rst v => { i with rst := v }
  | .a v => { i with a := v }
  | .d v => { i with d := v }
  | .asN v => { i with asN := v }
  | .dsN v => { i with dsN := v }
  | .rw v => { i with rw := v }
  | .siz v => { i with siz := v }
  | .dsackN v => { i with dsackN := v.getD 0b11#2 }
  | .bgN v => { i with bgN := v.getD true }
  | .bgackN v => { i with bgackN := v.getD true }
  | .srdAck v => { i with srdAck := v }
  | .srdDat v => { i with srdDat := v }
  | .swrAck v => { i with swrAck := v }
  | .dmaCyc v => { i with dmaCyc := v }
  | .dmaStb v => { i with dmaStb := v }
  | .dmaWe v => { i with dmaWe := v }
  | .dmaAdr v => { i with dmaAdr := v }
  | .dmaSel v => { i with dmaSel := v }
  | .dmaDat v => { i with dmaDat := v }

/-- The inputs after the changes of the lines of tick `t`. DESIGN CHOICE (log 27): where two lines, or two changes of
one line, set the same input at the same tick, which R120 does not order, the one that stands last in the script
holds; pseudo-instructions are expanded in their place first. -/
def applyAt (lines : List ScriptLine) (t : Nat) (i : Inputs) : Inputs :=
  ((lines.filter fun l => l.t == t).flatMap ScriptLine.changes).foldl Change.apply i

/-- The inputs of `n` ticks from tick `t` on: an input keeps its value until a later line changes it (R120). -/
def inputsFrom (lines : List ScriptLine) : Nat → Nat → Inputs → List Inputs
  | 0, _, _ => []
  | n + 1, t, i => applyAt lines t i :: inputsFrom lines n (t + 1) (applyAt lines t i)

/-! ## What an `expect` line names

R120 does not list the names. DESIGN CHOICE (log 27): an `expect` line may name every port, register, fault flag,
line at a stage or on the wire, and every combinational signal a rule defines by name: `sel`, `lane`, `fall`, `start`,
`withdrawn`, `s_ack`, `s_drive`, `req`, `granted`, `bus_idle`, `own`, `m_drive`, `contention`, and the acknowledge
observed of R255. -/

/-- Where a group of external lines is read. -/
inductive Stage where
  | wire
  | s1
  | s2
deriving DecidableEq, Repr

/-- The lines at a stage in the tick. -/
def Stage.lines (s : State) : Stage → Lines
  | .wire => wires s
  | .s1 => s.sync.s1
  | .s2 => s.sync.s2

/-- One-bit names, by the spec's own names. -/
inductive BitName where
  | aOe | dOe | ctlOe | asNO | dsNO | rwO | dsackOe | brOe | brNO | bgackOe | bgackNO
  | srdCycO | srdStbO | srdWeO | swrCycO | swrStbO | swrWeO | dmaAckO | ownO
  | asPrev | ctxDir | mctxWe | f1 | f2
  | rst | srdAck | swrAck | dmaCyc | dmaStb | dmaWe | brN
  | sel | fall | start | withdrawn | sAck | sDrive | req | granted | busIdle | own | ackSeen | mDrive | contention
deriving DecidableEq, Repr

/-- The value of a one-bit name in the tick. -/
def BitName.value (s : State) : BitName → Bool
  | .aOe => (out s).aOe
  | .dOe => (out s).dOe
  | .ctlOe => (out s).ctlOe
  | .asNO => (out s).asNO
  | .dsNO => (out s).dsNO
  | .rwO => (out s).rwO
  | .dsackOe => (out s).dsackOe
  | .brOe => (out s).brOe
  | .brNO => (out s).brNO
  | .bgackOe => (out s).bgackOe
  | .bgackNO => (out s).bgackNO
  | .srdCycO => (out s).srdCycO
  | .srdStbO => (out s).srdStbO
  | .srdWeO => (out s).srdWeO
  | .swrCycO => (out s).swrCycO
  | .swrStbO => (out s).swrStbO
  | .swrWeO => (out s).swrWeO
  | .dmaAckO => (out s).dmaAckO
  | .ownO => (out s).ownO
  | .asPrev => s.sync.asPrev
  | .ctxDir => s.slave.ctxDir
  | .mctxWe => s.master.mctxWe
  | .f1 => s.faults.contention
  | .f2 => s.faults.busFight
  | .rst => s.inputs.rst
  | .srdAck => s.inputs.srdAck
  | .swrAck => s.inputs.swrAck
  | .dmaCyc => s.inputs.dmaCyc
  | .dmaStb => s.inputs.dmaStb
  | .dmaWe => s.inputs.dmaWe
  | .brN => brWire s
  | .sel => Machine.sel s
  | .fall => Machine.fall s
  | .start => Machine.start s
  | .withdrawn => Machine.withdrawn s
  | .sAck => Machine.sAck s.slave
  | .sDrive => Machine.sDrive s.slave
  | .req => Machine.req s
  | .granted => Machine.granted s
  | .busIdle => Machine.busIdle s
  | .own => Machine.own s
  | .ackSeen => Machine.ackSeen s
  | .mDrive => Machine.mDrive s.master
  | .contention => Machine.contention s

/-- 32-bit data names. -/
inductive WordName where
  | dO | swrDatO | dmaDatO | srdDat | dmaDat | rdata | mctxWdata | mrdata
deriving DecidableEq, Repr

/-- The value of a data name in the tick. -/
def WordName.value (s : State) : WordName → Word
  | .dO => (out s).dO
  | .swrDatO => (out s).swrDatO
  | .dmaDatO => (out s).dmaDatO
  | .srdDat => s.inputs.srdDat
  | .dmaDat => s.inputs.dmaDat
  | .rdata => s.slave.rdata
  | .mctxWdata => s.master.mctxWdata
  | .mrdata => s.master.mrdata

/-- Internal word-address names. -/
inductive AdrName where
  | srdAdrO | swrAdrO | dmaAdr | ctxAdr | mctxAdr
deriving DecidableEq, Repr

/-- The value of a word-address name in the tick. -/
def AdrName.value (s : State) : AdrName → WordAddr
  | .srdAdrO => (out s).srdAdrO
  | .swrAdrO => (out s).swrAdrO
  | .dmaAdr => s.inputs.dmaAdr
  | .ctxAdr => s.slave.ctxAdr
  | .mctxAdr => s.master.mctxAdr

/-- Lane-mask names. -/
inductive MaskName where
  | srdSelO | swrSelO | dmaSel | ctxMask | lane
deriving DecidableEq, Repr

/-- The value of a lane-mask name in the tick. -/
def MaskName.value (s : State) : MaskName → LaneMask
  | .srdSelO => (out s).srdSelO
  | .swrSelO => (out s).swrSelO
  | .dmaSel => s.inputs.dmaSel
  | .ctxMask => s.slave.ctxMask
  | .lane => Machine.lane s.sync.s2.siz (offOf s.sync.s2.a)

/-- One `<name>=<value>` of an `expect` line (R120). -/
inductive Check where
  | S (v : SState)
  | A (v : AState)
  | M (v : MState)
  | bit (n : BitName) (v : Bool)
  | word (n : WordName) (v : Word)
  | adr (n : AdrName) (v : WordAddr)
  | mask (n : MaskName) (v : LaneMask)
  | aO (v : Addr)
  | sizO (v : SizeCode)
  | dsackNO (v : DsackLines)
  | a (at_ : Stage) (v : Addr)
  | d (at_ : Stage) (v : Word)
  | asN (at_ : Stage) (v : Bool)
  | dsN (at_ : Stage) (v : Bool)
  | rw (at_ : Stage) (v : Bool)
  | siz (at_ : Stage) (v : SizeCode)
  | dsackN (at_ : Stage) (v : DsackLines)
  | bgN (at_ : Stage) (v : Bool)
  | bgackN (at_ : Stage) (v : Bool)
deriving DecidableEq, Repr

/-- The rules give the named value in the tick. -/
def Check.holds (s : State) : Check → Bool
  | .S v => s.slave.S == v
  | .A v => s.A == v
  | .M v => s.master.M == v
  | .bit n v => n.value s == v
  | .word n v => n.value s == v
  | .adr n v => n.value s == v
  | .mask n v => n.value s == v
  | .aO v => (out s).aO == v
  | .sizO v => (out s).sizO == v
  | .dsackNO v => (out s).dsackNO == v
  | .a st v => (st.lines s).a == v
  | .d st v => (st.lines s).d == v
  | .asN st v => (st.lines s).asN == v
  | .dsN st v => (st.lines s).dsN == v
  | .rw st v => (st.lines s).rw == v
  | .siz st v => (st.lines s).siz == v
  | .dsackN st v => (st.lines s).dsackN == v
  | .bgN st v => (st.lines s).bgN == v
  | .bgackN st v => (st.lines s).bgackN == v

/-- A line `expect @<t> <name>=<value> …` (R120). -/
structure Expect where
  t : Nat
  checks : List Check
deriving DecidableEq, Repr

/-! ## A script and its run -/

/-- A bus script (R120): what the environment presents, and what the rules are expected to give. -/
structure Script where
  drive : List Pseudo
  expects : List Expect
deriving DecidableEq, Repr

/-- The `@` lines of a script, its pseudo-instructions expanded (R121). -/
def Script.lines (p : Script) : List ScriptLine := p.drive.flatMap Pseudo.expand

/-- The last tick a script names, in an `@` line or an `expect` line: the end of its run and its observation
point (R312). A script that names no tick ends at tick 0 (log 27). -/
def Script.lastTick (p : Script) : Nat :=
  (p.lines.map ScriptLine.t ++ p.expects.map Expect.t).foldl max 0

/-- The inputs of every tick of a script's run, from tick 0 to its last, with the draw `late` in each. -/
def Script.compile (p : Script) (late : Option Lines) : List Inputs :=
  inputsFrom p.lines (p.lastTick + 1) 0 { Inputs.idle with late := late }

/-- The state from which `step` runs a script: tick 0 after the reset preamble of R120, the script in place. -/
def State.withProgram (p : Script) (late : Option Lines) : State :=
  match p.compile late with
  | [] => State.reset
  | i :: rest => { State.reset with inputs := i, script := rest }

/-- The state `n` ticks later. No step stops (log 23). -/
def State.after (s : State) : Nat → State
  | 0 => s
  | n + 1 => match step s with
    | .next t => t.after n
    | _ => s

/-- Tick `t` of a script's run. -/
def Script.tickAt (p : Script) (late : Option Lines) (t : Nat) : State := (State.withProgram p late).after t

/-- The state at the observation point, the end of the run (R312). -/
def Script.observed (p : Script) (late : Option Lines) : State := p.tickAt late p.lastTick

/-- Every `expect` holds, each checked at its own tick (R312). -/
def Script.holds (p : Script) (late : Option Lines) : Bool :=
  p.expects.all fun e => e.checks.all (Check.holds (p.tickAt late e.t))

end Sys2Proof.Machine
end

