-- ==== Sys2Proof/Safety.lean ====
section
/-! DEFINITION. What counts as a safe run, in the words claims use: error cases, hangs and run ends
(60_exceptions.md R291 to R296, R312), the invariants of the registers, and the environment's duties
(R300 to R305), which the step does not enforce (log 22, log 26). -/

namespace Sys2Proof.Safety

open Sys2Proof.Machine

/-! ## Error cases and states of a run -/

/-- `E1`, external abort: the strobe is withdrawn before an in-flight slave transaction completes (R291). -/
def externalAbort (s : State) : Bool :=
  (s.slave.S == .readRequest || s.slave.S == .writeWaitData || s.slave.S == .writeRequest) && withdrawn s

/-- `E2`, lane fallback: a misaligned word or 3-byte request (R291, R293). -/
def laneFallback (siz : SizeCode) (off : BitVec 2) : Bool :=
  (Config.sizeOf siz == .word && off.getLsbD 0) || (Config.sizeOf siz == .threeByte && off != 0b00#2)

/-- A tick of `E3`: the master waits and no acknowledge is observed (R291, R259). Any ordinary waiting tick is
one; a run that never leaves it is `hangs`. -/
def unacknowledged (s : State) : Bool := s.master.M == .waitAck && !ackSeen s

/-- No fault recorded (R296): the premise of a claim over a run. -/
def unflagged (s : State) : Bool := !s.faults.contention && !s.faults.busFight

/-- The block drives no external line. -/
def drivesNothing (o : Outputs) : Bool :=
  !o.aOe && !o.dOe && !o.ctlOe && !o.dsackOe && !o.brOe && !o.bgackOe

/-- The run is quiescent at this state (R312). -/
def quiescent (s : State) : Bool :=
  s.slave.S == .idle && s.A == .idle && s.master.M == .idle &&
    !(out s).srdCycO && !(out s).swrCycO && !(out s).dmaAckO && drivesNothing (out s)

/-- A transaction is in flight: a state machine is not in `IDLE` (R312). -/
def inFlight (s : State) : Bool := s.slave.S != .idle || s.A != .idle || s.master.M != .idle

/-- The run of a script is quiescent at its end, the observation point (R312). -/
def endsQuiescent (p : Script) (late : Option Lines) : Bool := quiescent (p.observed late)

/-- A run: each tick's state steps to the next tick's. -/
def isTrace (tr : Nat → State) : Prop := ∀ k, step (tr k) = .next (tr (k + 1))

/-- `E3` as a mark on a run: it reaches `WAIT_ACK` and never leaves it, a hang, neither a fault nor a final state
(R294, R337). -/
def hangs (tr : Nat → State) : Prop := ∃ n, ∀ k, n ≤ k → (tr k).master.M = .waitAck

/-- A hang on the slave side: an internal request that is never acknowledged while the strobe is never withdrawn
(R295). -/
def slaveHangs (tr : Nat → State) : Prop :=
  ∃ n, (∀ k, n ≤ k → (tr k).slave.S = .readRequest) ∨ (∀ k, n ≤ k → (tr k).slave.S = .writeRequest)

/-! ## Invariants -/

/-- R268, R242(b). -/
def masterOwnsBus (s : State) : Prop := s.master.M ≠ .idle → s.A = .own

/-- The lane masks of R161. -/
def laneMasks : List LaneMask := [0b1111, 0b1000, 0b0100, 0b0010, 0b0001, 0b1100, 0b0011, 0b1110]

/-- The window bits [29:22] of an internal word address (R83). -/
def windowOf (w : WordAddr) : Win := w.extractLsb' 22 8

/-- The direction the state of an open slave cycle stands for (R183, R185, R189 to R191). -/
def readState (S : SState) : Bool := S == .readRequest || S == .readDrive

/-- While a slave cycle is open, its context is one a cycle start latched: an address in the windows, a mask
of R161, and the direction the state stands for (R39, R182 to R184). -/
def contextSound (s : State) : Prop :=
  s.slave.S ≠ .idle →
    windowOf s.slave.ctxAdr ∈ Config.slotIds ∧ s.slave.ctxMask ∈ laneMasks ∧
      s.slave.ctxDir = readState s.slave.S

/-! ## Duties of the environment over a run, one tick `t` after another

"The external master" is whoever drives `as_n` through the environment's side of the line, and a cycle is a
stretch of ticks with that drive asserted; the first tick after it, with the strobe negated, is its end.
Where a duty's sentence leaves a tick open the reading is marked here and listed in log 24. Log 26 lists every
duty, with those that no predicate of a run can say. -/

/-- The environment asserts the address strobe in the tick. -/
def extStrobe (s : State) : Prop := s.inputs.asN = some false

/-- The environment asserts both strobes of a write in the tick. -/
def extWriteStrobes (s : State) : Prop :=
  extStrobe s ∧ s.inputs.dsN = some false ∧ s.inputs.rw = some false

/-- The environment's strobe is asserted in tick `t` and negated in the next: a cycle ends in tick `t + 1`. -/
def cycleEnds (tr : Nat → State) (t : Nat) : Prop := extStrobe (tr t) ∧ ¬ extStrobe (tr (t + 1))

/-- A cycle of the environment starts in tick `t`: its strobe is asserted there and was not in the tick before, if
there is one. -/
def cycleStarts (tr : Nat → State) (t : Nat) : Prop :=
  extStrobe (tr t) ∧ (t = 0 ∨ ¬ extStrobe (tr (t - 1)))

/-- The lines an external master qualifies with its strobe are driven and the same in both ticks. -/
def qualifiedStable (s t : State) : Prop :=
  s.inputs.a.isSome ∧ s.inputs.rw.isSome ∧ s.inputs.siz.isSome ∧
    t.inputs.a = s.inputs.a ∧ t.inputs.rw = s.inputs.rw ∧ t.inputs.siz = s.inputs.siz

/-- The environment drives the same data in both ticks, all 32 bits (log 15, log 24). -/
def dataStable (s t : State) : Prop := s.inputs.d.isSome ∧ t.inputs.d = s.inputs.d

/-- A write of the environment has asserted both its strobes, and its address strobe has stayed asserted through
tick `t`. -/
def writeOpen (tr : Nat → State) (t : Nat) : Prop :=
  ∃ j, j ≤ t ∧ extWriteStrobes (tr j) ∧ ∀ i, j ≤ i → i ≤ t → extStrobe (tr i)

/-- The block begins to drive its acknowledge for the cycle whose strobe is first negated in tick `n`: in a tick
`k + 1` after the cycle's first, or as late as tick `n + 3`, where an internal acknowledge races the withdrawal (R331,
R333, and one tick of a late sample, R147).

DESIGN CHOICE (log 24): a cycle whose acknowledge a reset takes away before the strobe is negated (R323) counts as
one this block acknowledged (R327), since the block drove the acknowledge for it. -/
def blockAcknowledged (tr : Nat → State) (n : Nat) : Prop :=
  ∃ k, k < n + 3 ∧ (out (tr k)).dsackOe = false ∧ (out (tr (k + 1))).dsackOe = true ∧
    ∀ i, k ≤ i → i < n → extStrobe (tr i)

/-- In tick `k` the block asserts bus in use, or has just withdrawn its bus request: what ends a grant's hold. -/
def endsGrantHold (tr : Nat → State) (k : Nat) : Prop :=
  (out (tr k)).bgackOe = true ∨ (0 < k ∧ (out (tr (k - 1))).brOe = true ∧ (out (tr k)).brOe = false)

/-- The grant is asserted in tick `g`, before or after the block's request, and nothing has ended its hold from then
to tick `t`. A grant that stands asserted in tick 0 counts as asserted there (log 24). -/
def grantInForce (tr : Nat → State) (g t : Nat) : Prop :=
  g ≤ t ∧ (tr g).inputs.bgN = false ∧ (g = 0 ∨ (tr (g - 1)).inputs.bgN = true) ∧
    ∀ k, g ≤ k → k ≤ t → ¬ endsGrantHold tr k

/-- The block drives bus request in tick `t` without bus in use, and the grant was asserted in the tick before,
also when it is left over from an earlier ownership or an earlier request. -/
def grantMet (tr : Nat → State) (t : Nat) : Prop :=
  (tr t).inputs.bgN = false ∧ (out (tr (t + 1))).brOe = true ∧ (out (tr (t + 1))).bgackOe = false

/-- Duties of the external master, R300 (a) to (f), with the widths of R327, the stability of R328 and the hold of
R329.

DESIGN CHOICE (log 24), where the sentence of (f) and R338 leaves a tick open: a grant asserted before the block
drives bus request is in force too, and is held until the request that then comes is answered with bus in use or
withdrawn; a grant left over from an earlier ownership or request, whose hold has already ended, is in force again
where the block drives bus request; the hold ends in the very tick in which bus in use is asserted or the request is
no longer driven; and "starts no cycle in between" begins with the tick after the one in which the grant is first
asserted, so that a cycle may start in that very tick. And for (d): no external cycle runs while bus in use is
asserted, whatever the grant line does, as R275 and R339 say; that a cycle which starts just before and which the
block's synchronizer shows only in ownership breaks (d) too is the model's reading of R339's last sentence.

DESIGN CHOICE (log 24) for (c): the widths of negation are owed after cycles of the environment's strobe only, not
after a cycle the block itself ran, be it a loopback DMA that the Slave Responder acknowledged (R336(c)) or a DMA cut
by a reset (R323); and "End each cycle by negating `as_n`" sets no bound on a cycle, so that a strobe held for ever
is well-behaved, as R295 and I3 have it. -/
structure ExternalMasterDuties (tr : Nat → State) : Prop where
  /-- (a) stable from one tick before the strobe, until the strobe is negated -/
  stableBefore : ∀ t, extStrobe (tr (t + 1)) → qualifiedStable (tr t) (tr (t + 1))
  /-- (b) write data stable from one tick before the data strobe is asserted in the cycle -/
  dataBefore : ∀ t, extWriteStrobes (tr (t + 1)) → ¬ extWriteStrobes (tr t) → dataStable (tr t) (tr (t + 1))
  /-- (b), (c) write data held through the tick in which the address strobe is negated, whatever the data strobe does
  in between; no later -/
  dataHeld : ∀ t, writeOpen tr t → dataStable (tr t) (tr (t + 1))
  /-- (c) two ticks of negation between cycles -/
  negatedTwo : ∀ t, cycleEnds tr t → ¬ extStrobe (tr (t + 2))
  /-- (c) three ticks of negation after a cycle this block acknowledged -/
  negatedThree : ∀ t, cycleEnds tr t → blockAcknowledged tr (t + 1) → ¬ extStrobe (tr (t + 3))
  /-- (d) no cycle starts or runs while the block asserts bus in use, whether or not the grant is still asserted
  (R275, R339) -/
  noCycleWhileOwned : ∀ t, (out (tr t)).bgackOe = true → ¬ extStrobe (tr t)
  /-- (d) nor does a cycle start so late that the block first sees it in ownership: its strobe is seen two ticks after
  it is asserted, or three under a late sample (R143, R147) -/
  noCycleSeenWhileOwned : ∀ t j, cycleStarts tr t → j ≤ 3 → (out (tr (t + j))).bgackOe = false
  /-- (e) no tri-state line driven while the block drives it -/
  noFight : ∀ t, busFight (tr t) = false
  /-- (f) the grant is held until bus in use is asserted or bus request withdrawn -/
  grantHeld : ∀ g t, grantInForce tr g t → ¬ endsGrantHold tr (t + 1) → (tr (t + 1)).inputs.bgN = false
  /-- (f) no cycle starts in between (R338) -/
  noCycleWhileGranted : ∀ g t, grantInForce tr g t → ¬ endsGrantHold tr (t + 1) →
    ¬ cycleStarts tr (t + 1)
  /-- (f) the same for a grant that meets the block's request, however old it is -/
  grantHeldOnRequest : ∀ t, grantMet tr t → (tr (t + 1)).inputs.bgN = false
  /-- (f), R338: no cycle starts against a grant that meets the block's request -/
  noCycleOnRequest : ∀ t, grantMet tr t → ¬ cycleStarts tr (t + 1)

/-- The environment pulls an acknowledge line. -/
def extAck (s : State) : Prop := s.inputs.dsackN ≠ 0b11#2

/-- The environment begins to pull an acknowledge line in tick `t + 1`. -/
def ackBegins (tr : Nat → State) (t : Nat) : Prop :=
  ∃ i, i < Config.dsackLines ∧ (tr t).inputs.dsackN.getLsbD i = true ∧
    (tr (t + 1)).inputs.dsackN.getLsbD i = false

/-- The block runs a DMA read with its strobes asserted. -/
def readingOut (s : State) : Prop := strobesAsserted s.master = true ∧ s.master.mctxWe = false

/-- The environment has acknowledged a DMA read and pulls an acknowledge line without a break through tick `t`. -/
def readAckOpen (tr : Nat → State) (t : Nat) : Prop :=
  ∃ j, j ≤ t ∧ readingOut (tr j) ∧ ∀ i, j ≤ i → i ≤ t → extAck (tr i)

/-- Duties of the external slaves, R301 (a) to (d), with the release of R330 and the data of R332.

DESIGN CHOICE (log 24): a reset edge that takes the strobe from the block, without a tick in which the block drives it
negated (R323), counts as "the block negates `as_n`" of (c).

DESIGN CHOICE (log 24): "valid data" of (b) is all 32 bits of `d`, held unchanged, also on the lanes that a narrow slave
leaves undriven, which R264 and I10 let carry any value. -/
structure ExternalSlaveDuties (tr : Nat → State) : Prop where
  /-- (a) an acknowledge line is asserted only while the strobe is asserted on the wire -/
  ackWhileStrobe : ∀ t, ackBegins tr t → (wires (tr (t + 1))).asN = false
  /-- (b) read data from one tick before the acknowledge -/
  dataBeforeAck : ∀ t, ackBegins tr t → readingOut (tr (t + 1)) → dataStable (tr t) (tr (t + 1))
  /-- (b) read data held while the acknowledge is asserted, also after the block has negated its strobes (R332) -/
  dataHeld : ∀ t, readAckOpen tr t → extAck (tr (t + 1)) → dataStable (tr t) (tr (t + 1))
  /-- (c) both lines released within two ticks of the tick in which the block negates the strobe -/
  released : ∀ t, strobesAsserted (tr t).master = true → strobesAsserted (tr (t + 1)).master = false →
    ¬ extAck (tr (t + 3))
  /-- (d) no data driven on a write cycle -/
  noDataOnWrite : ∀ t, mDrive (tr t).master = true → (tr t).inputs.d = none

/-- Duties of the internal read slave (R302), which holds the words `words k` in tick `k`.

DESIGN CHOICE (log 26): R302 states both duty (a), no acknowledge outside a request, and the liberty of holding
`srd_ack_i` high without one, which the block ignores. This predicate takes the duty, so that a run with a held
acknowledge is none of a well-behaved environment; the step itself ignores it as the liberty says (R33, D33). -/
structure ReadSlaveDuties (words : Nat → WordAddr → Word) (tr : Nat → State) : Prop where
  /-- (a) an acknowledge only in a tick with a request; the request ends with that tick, so it lasts one tick -/
  ackOnRequest : ∀ t, (tr t).inputs.srdAck = true → (out (tr t)).srdCycO = true ∧ (out (tr t)).srdStbO = true
  /-- (b) the acknowledge tick presents the word at the address, the selected lanes at least -/
  presents : ∀ t x, performedRead (tr t) = some x →
    x.dat &&& laneBits x.sel = words t x.adr &&& laneBits x.sel

/-- Duties of the internal write slave (R304), which holds the words `words k` in tick `k`. DESIGN CHOICE (log 26):
in a tick in which a write is performed nothing else changes those words. -/
structure WriteSlaveDuties (words : Nat → WordAddr → Word) (tr : Nat → State) : Prop where
  /-- (a) an acknowledge only in a tick with a request; the request ends with that tick, so it lasts one tick -/
  ackOnRequest : ∀ t, (tr t).inputs.swrAck = true → (out (tr t)).swrCycO = true ∧ (out (tr t)).swrStbO = true
  /-- (b) exactly the selected lanes of the addressed word are written, from the data of the acknowledge tick -/
  writes : ∀ t x, performedWrite (tr t) = some x → ∀ w,
    words (t + 1) w = if w = x.adr then mergeLanes x.sel (words t w) x.dat else words t w

/-- Duties of the DMA requester (R303), where `again k` says that it means to run a further transfer after the
acknowledge of tick `k`. Duties (c) and (d) speak of what it makes of `dma_ack_o` and `dma_dat_o` (log 26).

DESIGN CHOICE (log 26): a request withdrawn in the middle of a transfer and asserted again before its `COMPLETE` meets
the acknowledge that (c) gives to the withdrawn transfer. `stable` lets every `dma_ack_o` end the hold of (a), that one
too, so the operands of the new request may change in the tick after it. -/
structure RequesterDuties (again : Nat → Prop) (tr : Nat → State) : Prop where
  /-- (a) what it presents is stable from the tick the request is asserted until the tick of the acknowledge or of its
  withdrawal -/
  stable : ∀ t, req (tr t) = true → req (tr (t + 1)) = true → (out (tr t)).dmaAckO = false →
    (tr (t + 1)).inputs.dmaWe = (tr t).inputs.dmaWe ∧ (tr (t + 1)).inputs.dmaAdr = (tr t).inputs.dmaAdr ∧
      (tr (t + 1)).inputs.dmaDat = (tr t).inputs.dmaDat
  /-- (b) no request in the tick after the acknowledge, unless a further transfer is meant -/
  dropsAfterAck : ∀ t, (out (tr t)).dmaAckO = true → ¬ again t → req (tr (t + 1)) = false

/-! ## Well-behaved runs -/

/-- A run begins in the first tick with `rst` = 0 after a reset of at least `RESET_MIN_TICKS` ticks (R312, R321,
R326). Resets inside the run are the matter of `resetPulsesLast`. -/
def afterReset (tr : Nat → State) (start : Nat) : Prop :=
  Config.resetMinTicks ≤ start ∧ (tr start).inputs.rst = false ∧
    ∀ k, start - Config.resetMinTicks ≤ k → k < start → (tr k).inputs.rst = true

/-- The ticks from tick `start` on. -/
def ticksFrom (tr : Nat → State) (start : Nat) : Nat → State := fun k => tr (start + k)

/-- What the environment's agents hold and mean over a run, beyond what they drive (R302 to R304). -/
structure Agents where
  /-- the words of the internal read slave in each tick -/
  readWords : Nat → WordAddr → Word
  /-- the words of the internal write slave in each tick -/
  writeWords : Nat → WordAddr → Word
  /-- the requester means to run a further transfer after the acknowledge of the tick -/
  again : Nat → Prop

/-- Every reset pulse that begins in the run lasts at least `RESET_MIN_TICKS` ticks. -/
def resetPulsesLast (tr : Nat → State) : Prop :=
  ∀ t i, (tr t).inputs.rst = false → (tr (t + 1)).inputs.rst = true → i < Config.resetMinTicks →
    (tr (t + 1 + i)).inputs.rst = true

/-- A run of a well-behaved environment from tick `start` on: no agent makes a move that breaks a duty (R305). This
is the assumption of a claim that rests on the duties.

DESIGN CHOICE (log 28): the minimum of R321 ("shortest reset pulse", R9; I12 refuses a shorter one) is asked of the
resets inside the run too, not only of the one before it. The step itself runs a shorter pulse by R320.

DESIGN CHOICE (log 24): the duties on the external bus are asked from the last tick of the reset before the run on, so
that a strobe, grant or acknowledge of the run's first tick has a tick before it. -/
structure WellBehavedRun (e : Agents) (tr : Nat → State) (start : Nat) : Prop where
  trace : isTrace tr
  reset : afterReset tr start
  pulses : resetPulsesLast (ticksFrom tr start)
  master : ExternalMasterDuties (ticksFrom tr (start - 1))
  slave : ExternalSlaveDuties (ticksFrom tr (start - 1))
  readSlave : ReadSlaveDuties e.readWords (ticksFrom tr start)
  writeSlave : WriteSlaveDuties e.writeWords (ticksFrom tr start)
  requester : RequesterDuties e.again (ticksFrom tr start)

end Sys2Proof.Safety
end

