-- ==== Sys2Proof/Certificates/Slice0/Obligations.lean ====
section
/-! DEFINITION. The statements for the provers. -/

open Sys2Proof Sys2Proof.Machine Sys2Proof.Safety

/-! ## Words the statements use -/

/-- The Slave Responder's registers after a cycle start of direction `read` and mask `mask`, as R183 and R184 give
them, `rdata` unchanged. -/
def Sys2Proof.Claims.slaveStarted (s : State) (read : Bool) (mask : LaneMask) : SlaveRegs :=
  { S := if read then .readRequest else .writeWaitData
    ctxAdr := s.sync.s2.a.extractLsb' 2 30
    ctxDir := read
    ctxMask := mask
    rdata := s.slave.rdata }

/-- The Master Engine's registers after a transfer start of direction `we`, as R251 and R252 give them, `mrdata`
unchanged. -/
def Sys2Proof.Claims.masterStarted (s : State) (we : Bool) : MasterRegs :=
  { M := .driveAddress
    mctxAdr := s.inputs.dmaAdr
    mctxWe := we
    mctxWdata := s.inputs.dmaDat
    mrdata := s.master.mrdata }

/-- The operation is one of format `SD13`. -/
def Sys2Proof.Claims.isSlave (i : Instr) : Bool := (encode i).isSD13

/-- The sample of one group holds, bit by bit, the old or the new level (R147). -/
def Sys2Proof.Claims.oldOrNew {w : Nat} (x old new : BitVec w) : Prop :=
  ∀ k, x.getLsbD k = old.getLsbD k ∨ x.getLsbD k = new.getLsbD k

/-- The states agree on everything a rule of the three state machines may read (R48, R142): stage 2, the edge
register, the machines' own registers, and the internal-bus inputs with `rst`. -/
def Sys2Proof.Claims.sameView (s t : State) : Prop :=
  s.sync.s2 = t.sync.s2 ∧ s.sync.asPrev = t.sync.asPrev ∧ s.slave = t.slave ∧ s.A = t.A ∧
    s.master = t.master ∧ s.inputs.rst = t.inputs.rst ∧ s.inputs.srdAck = t.inputs.srdAck ∧
    s.inputs.srdDat = t.inputs.srdDat ∧ s.inputs.swrAck = t.inputs.swrAck ∧
    s.inputs.dmaCyc = t.inputs.dmaCyc ∧ s.inputs.dmaStb = t.inputs.dmaStb ∧
    s.inputs.dmaWe = t.inputs.dmaWe ∧ s.inputs.dmaAdr = t.inputs.dmaAdr ∧
    s.inputs.dmaDat = t.inputs.dmaDat

open Sys2Proof.Claims

/-! ## Encoding -/

/-- Decoding the encoding of a well-formed operation gives it back (R111, R114 to R116). -/
def Obligations.DecodeEncodeRoundTrip : Prop :=
  ∀ i : Instr, i.wellFormed = true → decode (encode i) = .ok i

/-- A descriptor that decodes is the encoding of what it decodes to, and that is well formed. -/
def Obligations.EncodeDecodeRoundTrip : Prop :=
  ∀ (d : Descriptor) (i : Instr), decode d = .ok i → encode i = d ∧ i.wellFormed = true

/-- "The 44 rows cover every selected descriptor exactly once" (R115); an unselected one matches none and is
rejected by name (R117). -/
def Obligations.RowsCoverSelectedDescriptorsOnce : Prop :=
  ∀ w : BitVec 13,
    (sd13Win w ∈ Config.slotIds →
      (sd13Rows.filter (fun r => r.selects (.sd13 w))).length = 1 ∧
        ∃ i, decodeSD13 w = .ok i ∧ i.row ∈ sd13Rows ∧ i.row.selects (.sd13 w) = true) ∧
    (sd13Win w ∉ Config.slotIds →
      sd13Rows.filter (fun r => r.selects (.sd13 w)) = [] ∧ decodeSD13 w = .rejected .notSelected)

/-- The `DD3` map (R116) and its patterns that are no request (R118). -/
def Obligations.DmaDescriptorMap : Prop :=
  decodeDD3 0b110#3 = .ok .dmaRd ∧ decodeDD3 0b111#3 = .ok .dmaWr ∧
    ∀ w : BitVec 3, (w.getLsbD 2 = false ∨ w.getLsbD 1 = false) → decodeDD3 w = .rejected .noRequest

/-- A few descriptors written out from 95_test_vectors.md decode to the operations named there. -/
def Obligations.WrittenWordsDecode : Prop :=
  decodeSD13 0b1111100110100#13 = .ok .srdB0F9 ∧
  decodeSD13 0b1111101000000#13 = .ok (.swrLFAFB 0xFA#8 0b00#2) ∧
  decodeSD13 0b1111101111010#13 = .ok (.srdW2FAFB 0xFB#8) ∧
  decodeSD13 0b1111100101000#13 = .ok .swrW0F9 ∧
  decodeSD13 0b1111101111111#13 = .ok (.srdTX1FAFB 0xFB#8 0b11#2) ∧
  decodeDD3 0b110#3 = .ok .dmaRd

/-! ## The step -/

/-- In a tick that samples an `SD13` descriptor (R110), step is exec of the operation it decodes to. -/
def Obligations.StepRunsSampledSlaveOperation : Prop :=
  ∀ (s : State) (i : Instr), s.slave.S = .idle → fall s = true → decodeSD13 s.sd13 = .ok i →
    step s = exec i s ∧ i.wellFormed = true

/-- In a tick that samples a `DD3` descriptor (R110), step is exec of the operation it decodes to. It is so also when the
same tick samples a slave operation: the model's reading (DEDUCED, log 9) is that running either operation is the whole tick, in
which the other component's start takes place by its own rule (R46, R104, R298). -/
def Obligations.StepRunsSampledDmaOperation : Prop :=
  ∀ (s : State) (i : Instr), s.master.M = .idle → s.A = .own → decodeDD3 s.dd3 = .ok i →
    step s = exec i s

/-- Running the operations a tick samples is `Next` of R46 and R320: every component's rule on the tick's state,
with the lane mask of R161 in place of the operation's own. -/
def Obligations.StepIsComponentTick : Prop :=
  ∀ s : State, step s = .next (tick s)

/-- A cycle outside the windows leaves the Slave Responder in `IDLE` as it is; it drives nothing and requests nothing (R84). -/
def Obligations.UnselectedCycleIgnored : Prop :=
  ∀ s : State, s.slave.S = .idle → winOf s.sync.s2.a ∉ Config.slotIds →
    ∃ t, step s = .next t ∧ t.slave = s.slave ∧ (out t).dsackOe = false ∧ sDrive t.slave = false ∧
      (out t).srdCycO = false ∧ (out t).swrCycO = false

/-! ## Each operation at the tick that starts it -/

/-- Where a cycle starts (R182) and no reset is asserted, each slave read operation of the 0xF9 rows
latches the word address, the direction and its own lane mask, moves `S`, and touches nothing else: every other field is the
tick's (R200 to R210, R183, R184). -/
def Obligations.SlaveReadF9OperationsStart : Prop :=
  ∀ (s : State) (off : BitVec 2), start s = true → s.inputs.rst = false →
    exec (.srdLF9 off) s = .next { tick s with slave := slaveStarted s true 0b1111 } ∧
    exec .srdB0F9 s = .next { tick s with slave := slaveStarted s true 0b1000 } ∧
    exec .srdB1F9 s = .next { tick s with slave := slaveStarted s true 0b0100 } ∧
    exec .srdB2F9 s = .next { tick s with slave := slaveStarted s true 0b0010 } ∧
    exec .srdB3F9 s = .next { tick s with slave := slaveStarted s true 0b0001 } ∧
    exec .srdW0F9 s = .next { tick s with slave := slaveStarted s true 0b1100 } ∧
    exec .srdW2F9 s = .next { tick s with slave := slaveStarted s true 0b0011 } ∧
    exec (.srdWXF9 off) s = .next { tick s with slave := slaveStarted s true 0b1111 } ∧
    exec .srdT0F9 s = .next { tick s with slave := slaveStarted s true 0b1110 } ∧
    exec (.srdTX1F9 off) s = .next { tick s with slave := slaveStarted s true 0b1111 } ∧
    exec .srdTX2F9 s = .next { tick s with slave := slaveStarted s true 0b1111 }

/-- Where a cycle starts (R182) and no reset is asserted, each slave read operation of the 0xFA and 0xFB rows
latches the word address, the direction and its own lane mask, moves `S`, and touches nothing else: every other field is the
tick's (R200 to R210, R183, R184). -/
def Obligations.SlaveReadFAFBOperationsStart : Prop :=
  ∀ (s : State) (win : Win) (off : BitVec 2), start s = true → s.inputs.rst = false →
    exec (.srdLFAFB win off) s = .next { tick s with slave := slaveStarted s true 0b1111 } ∧
    exec (.srdB0FAFB win) s = .next { tick s with slave := slaveStarted s true 0b1000 } ∧
    exec (.srdB1FAFB win) s = .next { tick s with slave := slaveStarted s true 0b0100 } ∧
    exec (.srdB2FAFB win) s = .next { tick s with slave := slaveStarted s true 0b0010 } ∧
    exec (.srdB3FAFB win) s = .next { tick s with slave := slaveStarted s true 0b0001 } ∧
    exec (.srdW0FAFB win) s = .next { tick s with slave := slaveStarted s true 0b1100 } ∧
    exec (.srdW2FAFB win) s = .next { tick s with slave := slaveStarted s true 0b0011 } ∧
    exec (.srdWXFAFB win off) s = .next { tick s with slave := slaveStarted s true 0b1111 } ∧
    exec (.srdT0FAFB win) s = .next { tick s with slave := slaveStarted s true 0b1110 } ∧
    exec (.srdTX1FAFB win off) s = .next { tick s with slave := slaveStarted s true 0b1111 } ∧
    exec (.srdTX2FAFB win) s = .next { tick s with slave := slaveStarted s true 0b1111 }

/-- Where a cycle starts (R182) and no reset is asserted, each slave write operation of the 0xF9 rows
latches the word address, the direction and its own lane mask, moves `S`, and touches nothing else: every other field is the
tick's (R211 to R221, R183, R184). -/
def Obligations.SlaveWriteF9OperationsStart : Prop :=
  ∀ (s : State) (off : BitVec 2), start s = true → s.inputs.rst = false →
    exec (.swrLF9 off) s = .next { tick s with slave := slaveStarted s false 0b1111 } ∧
    exec .swrB0F9 s = .next { tick s with slave := slaveStarted s false 0b1000 } ∧
    exec .swrB1F9 s = .next { tick s with slave := slaveStarted s false 0b0100 } ∧
    exec .swrB2F9 s = .next { tick s with slave := slaveStarted s false 0b0010 } ∧
    exec .swrB3F9 s = .next { tick s with slave := slaveStarted s false 0b0001 } ∧
    exec .swrW0F9 s = .next { tick s with slave := slaveStarted s false 0b1100 } ∧
    exec .swrW2F9 s = .next { tick s with slave := slaveStarted s false 0b0011 } ∧
    exec (.swrWXF9 off) s = .next { tick s with slave := slaveStarted s false 0b1111 } ∧
    exec .swrT0F9 s = .next { tick s with slave := slaveStarted s false 0b1110 } ∧
    exec (.swrTX1F9 off) s = .next { tick s with slave := slaveStarted s false 0b1111 } ∧
    exec .swrTX2F9 s = .next { tick s with slave := slaveStarted s false 0b1111 }

/-- Where a cycle starts (R182) and no reset is asserted, each slave write operation of the 0xFA and 0xFB rows
latches the word address, the direction and its own lane mask, moves `S`, and touches nothing else: every other field is the
tick's (R211 to R221, R183, R184). -/
def Obligations.SlaveWriteFAFBOperationsStart : Prop :=
  ∀ (s : State) (win : Win) (off : BitVec 2), start s = true → s.inputs.rst = false →
    exec (.swrLFAFB win off) s = .next { tick s with slave := slaveStarted s false 0b1111 } ∧
    exec (.swrB0FAFB win) s = .next { tick s with slave := slaveStarted s false 0b1000 } ∧
    exec (.swrB1FAFB win) s = .next { tick s with slave := slaveStarted s false 0b0100 } ∧
    exec (.swrB2FAFB win) s = .next { tick s with slave := slaveStarted s false 0b0010 } ∧
    exec (.swrB3FAFB win) s = .next { tick s with slave := slaveStarted s false 0b0001 } ∧
    exec (.swrW0FAFB win) s = .next { tick s with slave := slaveStarted s false 0b1100 } ∧
    exec (.swrW2FAFB win) s = .next { tick s with slave := slaveStarted s false 0b0011 } ∧
    exec (.swrWXFAFB win off) s = .next { tick s with slave := slaveStarted s false 0b1111 } ∧
    exec (.swrT0FAFB win) s = .next { tick s with slave := slaveStarted s false 0b1110 } ∧
    exec (.swrTX1FAFB win off) s = .next { tick s with slave := slaveStarted s false 0b1111 } ∧
    exec (.swrTX2FAFB win) s = .next { tick s with slave := slaveStarted s false 0b1111 }

/-- Where a transfer starts (R251) and no reset is asserted, each DMA operation latches the address, its direction and the
data, moves `M`, and touches nothing else (R252, R265, R266). -/
def Obligations.DmaOperationsStart : Prop :=
  ∀ s : State, masterStarts s = true → s.inputs.rst = false →
    exec .dmaRd s = .next { tick s with master := masterStarted s false } ∧
    exec .dmaWr s = .next { tick s with master := masterStarted s true }

/-- Every operation runs from every state to a next state, and whatever the operation is, the Synchronizer Bank, the arbiter and
the fault flags take their own rules, a slave operation leaves the Master Engine to its rule and a DMA operation the Slave
Responder to its own (R46, R104, R290). That exec answers in states that do not sample the operation is the model's choice
(DESIGN CHOICE, log 10), and so are the clauses on the inputs and the script, which are the model's own fields for what the
environment presents (DESIGN CHOICE, log 2). -/
def Obligations.EveryOperationAnswersNext : Prop :=
  ∀ (i : Instr) (s : State), ∃ t, exec i s = .next t ∧
    t.sync = syncNext s ∧ t.A = resetArb s.inputs.rst (arbNext s) ∧ t.faults = faultsNext s ∧
    t.inputs = inputsNext s ∧ t.script = s.script.tail ∧
    (isSlave i = true → t.master = resetMaster s.inputs.rst (masterNext s)) ∧
    (isSlave i = false → t.slave = resetSlave s.inputs.rst (slaveNext s))

/-- DESIGN CHOICE of the model (log 10): in a tick that does not start a cycle, a slave operation is the tick of the state rules; in
one that does not start a transfer, so is a DMA operation. -/
def Obligations.UnsampledOperationFollowsStateRules : Prop :=
  ∀ (i : Instr) (s : State),
    (isSlave i = true → start s = false → exec i s = .next (tick s)) ∧
    (isSlave i = false → masterStarts s = false → exec i s = .next (tick s))

/-! ## Slave Responder -/

/-- From `IDLE` (R183): the direction branch if a cycle starts (R182), else `IDLE`. -/
def Obligations.SlaveIdleTransition : Prop :=
  ∀ s : State, s.slave.S = .idle → s.inputs.rst = false →
    ∃ t, step s = .next t ∧
      t.slave.S =
        (if s.sync.asPrev = true ∧ s.sync.s2.asN = false ∧ winOf s.sync.s2.a ∈ Config.slotIds then
          (if s.sync.s2.rw = true then .readRequest else .writeWaitData)
        else .idle)

/-- The Slave Cycle Context is written exactly in a tick with `start` = 1 (R184). -/
def Obligations.SlaveContextWrittenOnlyAtStart : Prop :=
  ∀ s t : State, step s = .next t →
    (start s = true →
      t.slave.ctxAdr = s.sync.s2.a.extractLsb' 2 30 ∧ t.slave.ctxDir = s.sync.s2.rw ∧
        t.slave.ctxMask = lane s.sync.s2.siz (s.sync.s2.a.extractLsb' 0 2)) ∧
    (start s = false →
      t.slave.ctxAdr = s.slave.ctxAdr ∧ t.slave.ctxDir = s.slave.ctxDir ∧
        t.slave.ctxMask = s.slave.ctxMask)

/-- From `READ_REQUEST` (R185), abort before acknowledge (R193). -/
def Obligations.ReadRequestTransition : Prop :=
  ∀ s : State, s.slave.S = .readRequest → s.inputs.rst = false →
    ∃ t, step s = .next t ∧
      t.slave =
        (if s.sync.s2.asN = true then { s.slave with S := .idle }
        else if s.inputs.srdAck = true then { s.slave with S := .readDrive, rdata := s.inputs.srdDat }
        else s.slave)

/-- `rdata` is written only in a tick with `S = READ_REQUEST`, no withdrawal and `srd_ack_i` = 1, with all 32 bits of
`srd_dat_i`, and holds its value otherwise (R187). -/
def Obligations.ReadDataWrittenOnlyOnAcknowledge : Prop :=
  ∀ s t : State, step s = .next t →
    t.slave.rdata =
      (if s.slave.S = .readRequest ∧ s.sync.s2.asN = false ∧ s.inputs.srdAck = true then s.inputs.srdDat
      else s.slave.rdata)

/-- From `READ_DRIVE`, `WRITE_WAIT_DATA`, `WRITE_REQUEST` and `WRITE_ACK` (R188 to R191), the other registers of the Slave
Responder unchanged. -/
def Obligations.SlaveWaitTransitions : Prop :=
  ∀ s : State, s.inputs.rst = false → ∃ t, step s = .next t ∧
    (s.slave.S = .readDrive →
      t.slave = if s.sync.s2.asN = true then { s.slave with S := .idle } else s.slave) ∧
    (s.slave.S = .writeWaitData →
      t.slave = if s.sync.s2.asN = true then { s.slave with S := .idle }
        else if s.sync.s2.dsN = false then { s.slave with S := .writeRequest } else s.slave) ∧
    (s.slave.S = .writeRequest →
      t.slave = if s.sync.s2.asN = true then { s.slave with S := .idle }
        else if s.inputs.swrAck = true then { s.slave with S := .writeAck } else s.slave) ∧
    (s.slave.S = .writeAck →
      t.slave = if s.sync.s2.asN = true then { s.slave with S := .idle } else s.slave)

/-- External abort in every state but `IDLE` (R192): whatever else the tick presents, `S` is `IDLE` in the next tick, no
acknowledge is driven and neither internal request is active, and the Slave Responder writes nothing else. No retry: in a run, it
stays so in every later tick up to and with the next one that starts a cycle. -/
def Obligations.AbortReturnsToIdle : Prop :=
  (∀ s : State, s.slave.S ≠ .idle → s.sync.s2.asN = true →
    ∃ t, step s = .next t ∧ t.slave = { s.slave with S := .idle } ∧
      (out t).dsackOe = false ∧ (out t).srdCycO = false ∧ (out t).swrCycO = false) ∧
  (∀ (tr : Nat → State) (n : Nat), isTrace tr → (tr 0).slave.S ≠ .idle → (tr 0).sync.s2.asN = true →
    (∀ k, 1 ≤ k → k < n → start (tr k) = false) →
    ∀ k, 1 ≤ k → k ≤ n →
      (tr k).slave = { (tr 0).slave with S := .idle } ∧
        (out (tr k)).dsackOe = false ∧ (out (tr k)).srdCycO = false ∧ (out (tr k)).swrCycO = false)

/-- `READ_DRIVE` and `WRITE_ACK` are entered only on the internal acknowledge (R102), so the external cycle is acknowledged
only after its internal transfer was performed. -/
def Obligations.AcknowledgeOnlyAfterInternalTransfer : Prop :=
  ∀ s t : State, step s = .next t → (out s).dsackOe = false → (out t).dsackOe = true →
    (t.slave.S = .readDrive ∧
      performedRead s = some ⟨s.slave.ctxAdr, s.slave.ctxMask, t.slave.rdata⟩) ∨
    (t.slave.S = .writeAck ∧
      performedWrite s = some ⟨s.slave.ctxAdr, s.slave.ctxMask, s.sync.s2.d⟩)

/-- At most one internal transfer per external cycle (R97): no tick performs both a read and a write, and between two ticks of a
run that perform a transfer, on `srd` or on `swr`, a new cycle starts. -/
def Obligations.OneInternalTransferPerCycle : Prop :=
  (∀ s : State, performedRead s = none ∨ performedWrite s = none) ∧
  (∀ (tr : Nat → State) (j k : Nat), isTrace tr → j < k →
    (performedRead (tr j) ≠ none ∨ performedWrite (tr j) ≠ none) →
    (performedRead (tr k) ≠ none ∨ performedWrite (tr k) ≠ none) →
    ∃ i, j < i ∧ i < k ∧ start (tr i) = true)

/-- The outputs of the Slave Responder (R194 to R198). -/
def Obligations.SlaveOutputs : Prop :=
  ∀ s : State,
    ((out s).srdCycO = true ↔ s.slave.S = .readRequest) ∧ (out s).srdStbO = (out s).srdCycO ∧
    (out s).srdWeO = false ∧ (out s).srdAdrO = s.slave.ctxAdr ∧ (out s).srdSelO = s.slave.ctxMask ∧
    ((out s).swrCycO = true ↔ s.slave.S = .writeRequest) ∧ (out s).swrStbO = (out s).swrCycO ∧
    (out s).swrWeO = true ∧ (out s).swrAdrO = s.slave.ctxAdr ∧ (out s).swrSelO = s.slave.ctxMask ∧
    (out s).swrDatO = s.sync.s2.d ∧
    ((out s).dsackOe = true ↔ s.slave.S = .readDrive ∨ s.slave.S = .writeAck) ∧
    (out s).dsackNO = 0b00#2

/-- The sequence `SlaveRead` of R199, with `n` ticks of waiting for the internal acknowledge and `m` further ticks of the
strobe: one request with the address and mask of the cycle until the acknowledge, then data and both acknowledge lines until
the strobe is withdrawn, then release (R185 to R188, R194, R196, R197). -/
def Obligations.SlaveReadSequence : Prop :=
  ∀ (tr : Nat → State) (n m : Nat), isTrace tr →
    start (tr 0) = true → (tr 0).sync.s2.rw = true →
    (∀ k, k ≤ n + m + 2 → (tr k).inputs.rst = false) →
    (∀ k, 1 ≤ k → k ≤ n + m + 1 → withdrawn (tr k) = false) →
    (∀ k, 1 ≤ k → k ≤ n → (tr k).inputs.srdAck = false) →
    (tr (n + 1)).inputs.srdAck = true → withdrawn (tr (n + m + 2)) = true →
    (∀ k, 1 ≤ k → k ≤ n + 1 →
      (out (tr k)).srdCycO = true ∧ (out (tr k)).srdAdrO = wordAddr (tr 0).sync.s2.a ∧
        (out (tr k)).srdSelO = lane (tr 0).sync.s2.siz (offOf (tr 0).sync.s2.a) ∧
        (out (tr k)).dsackOe = false) ∧
    (∀ k, n + 2 ≤ k → k ≤ n + m + 2 →
      (out (tr k)).srdCycO = false ∧ (out (tr k)).dsackOe = true ∧ (out (tr k)).dOe = true ∧
        (contention (tr k) = false → (out (tr k)).dO = (tr (n + 1)).inputs.srdDat)) ∧
    (tr (n + m + 3)).slave.S = .idle ∧ (out (tr (n + m + 3))).dsackOe = false

/-- The sequence `SlaveWrite` of R199, with `p` ticks of waiting for the data strobe, `n` for the internal acknowledge and `m`
further ticks of the strobe (R189 to R191, R195, R196). -/
def Obligations.SlaveWriteSequence : Prop :=
  ∀ (tr : Nat → State) (p n m : Nat), isTrace tr →
    start (tr 0) = true → (tr 0).sync.s2.rw = false →
    (∀ k, k ≤ p + n + m + 3 → (tr k).inputs.rst = false) →
    (∀ k, 1 ≤ k → k ≤ p + n + m + 2 → withdrawn (tr k) = false) →
    (∀ k, 1 ≤ k → k ≤ p → (tr k).sync.s2.dsN = true) → (tr (p + 1)).sync.s2.dsN = false →
    (∀ k, p + 2 ≤ k → k ≤ p + n + 1 → (tr k).inputs.swrAck = false) →
    (tr (p + n + 2)).inputs.swrAck = true → withdrawn (tr (p + n + m + 3)) = true →
    (∀ k, 1 ≤ k → k ≤ p + 1 → (out (tr k)).swrCycO = false ∧ (out (tr k)).dsackOe = false) ∧
    (∀ k, p + 2 ≤ k → k ≤ p + n + 2 →
      (out (tr k)).swrCycO = true ∧ (out (tr k)).swrWeO = true ∧
        (out (tr k)).swrAdrO = wordAddr (tr 0).sync.s2.a ∧
        (out (tr k)).swrSelO = lane (tr 0).sync.s2.siz (offOf (tr 0).sync.s2.a) ∧
        (out (tr k)).swrDatO = (tr k).sync.s2.d ∧ (out (tr k)).dsackOe = false) ∧
    (∀ k, p + n + 3 ≤ k → k ≤ p + n + m + 3 →
      (out (tr k)).swrCycO = false ∧ (out (tr k)).dsackOe = true) ∧
    (tr (p + n + m + 4)).slave.S = .idle ∧ (out (tr (p + n + m + 4))).dsackOe = false

/-- An open slave cycle's context is one a cycle start latched, and every step keeps it so (R39, R182 to R184). -/
def Obligations.StepKeepsContextSound : Prop :=
  ∀ s t : State, contextSound s → step s = .next t → contextSound t

/-! ## Bus Arbiter -/

/-- The arbiter's transition table, first matching row (R234). -/
def Obligations.ArbiterTransitionTable : Prop :=
  ∀ s : State, s.inputs.rst = false → ∃ t, step s = .next t ∧
    (s.A = .idle → t.A = if req s = true then .request else .idle) ∧
    (s.A = .request →
      t.A = if req s = false then .idle else if s.sync.s2.bgN = false then .waitFree else .request) ∧
    (s.A = .waitFree →
      t.A = if req s = false then .idle
        else if s.sync.s2.asN = true ∧ s.sync.s2.dsackN = 0b11#2 ∧ s.sync.s2.bgackN = true then .own
        else .waitFree) ∧
    (s.A = .own →
      t.A = if req s = false ∧ (s.master.M = .idle ∨ s.master.M = .complete) then .idle else .own)

/-- The grant is tested only in `REQUEST` (R235): elsewhere it changes nothing of the next registers of the three state
machines. -/
def Obligations.GrantReadOnlyInRequest : Prop :=
  ∀ (s : State) (b : Bool), s.A ≠ .request →
    ∃ t u, step s = .next t ∧
      step { s with sync := { s.sync with s2 := { s.sync.s2 with bgN := b } } } = .next u ∧
      u.A = t.A ∧ u.slave = t.slave ∧ u.master = t.master

/-- Ownership is entered only from `WAIT_FREE` on an idle bus, `WAIT_FREE` only from `REQUEST` on a grant, and bus in use is
driven only in ownership (R242(a)). -/
def Obligations.OwnershipNeedsGrantAndIdleBus : Prop :=
  ∀ s t : State, step s = .next t →
    (t.A = .own → s.A ≠ .own → s.A = .waitFree ∧ busIdle s = true ∧ req s = true) ∧
    (t.A = .waitFree → s.A ≠ .waitFree → s.A = .request ∧ granted s = true ∧ req s = true) ∧
    ((out t).bgackOe = true → t.A = .own)

/-- The arbiter's outputs (R237 to R239, R279, R280). -/
def Obligations.ArbiterOutputs : Prop :=
  ∀ s : State,
    ((out s).ownO = true ↔ s.A = .own) ∧
    ((out s).brOe = true ↔ s.A = .request ∨ s.A = .waitFree ∨ s.A = .own) ∧ (out s).brNO = false ∧
    ((out s).bgackOe = true ↔ s.A = .own) ∧ (out s).bgackNO = false

/-- A request withdrawn in `REQUEST` or `WAIT_FREE` returns the arbiter to `IDLE` with bus request released, bus in use never
asserted and nothing started (R241). -/
def Obligations.CancelledArbitration : Prop :=
  ∀ s : State, s.A = .request ∨ s.A = .waitFree → req s = false → s.master.M = .idle →
    ∃ t, step s = .next t ∧ t.A = .idle ∧ (out s).bgackOe = false ∧ (out t).brOe = false ∧
      (out t).bgackOe = false ∧ t.master = s.master

/-! ## Master Transfer Engine -/

/-- The Master Engine's transition table with its register writes (R250, R251, R255). -/
def Obligations.MasterTransitionTable : Prop :=
  ∀ s : State, s.inputs.rst = false → ∃ t, step s = .next t ∧
    (s.master.M = .idle →
      t.master = if s.A = .own ∧ req s = true then masterStarted s s.inputs.dmaWe else s.master) ∧
    (s.master.M = .driveAddress → t.master = { s.master with M := .assertStrobes }) ∧
    (s.master.M = .assertStrobes → t.master = { s.master with M := .waitAck }) ∧
    (s.master.M = .waitAck →
      t.master = if s.sync.s2.dsackN = 0b11#2 then s.master
        else if s.master.mctxWe = true then { s.master with M := .complete }
        else { s.master with M := .complete, mrdata := s.sync.s2.d }) ∧
    (s.master.M = .complete → t.master = { s.master with M := .idle })

/-- The Master Cycle Context is written exactly in the tick that starts a transfer (R252). -/
def Obligations.MasterContextWrittenOnlyAtStart : Prop :=
  ∀ s t : State, step s = .next t →
    (s.master.M = .idle ∧ s.A = .own ∧ req s = true →
      t.master.mctxAdr = s.inputs.dmaAdr ∧ t.master.mctxWe = s.inputs.dmaWe ∧
        t.master.mctxWdata = s.inputs.dmaDat) ∧
    (¬ (s.master.M = .idle ∧ s.A = .own ∧ req s = true) →
      t.master.mctxAdr = s.master.mctxAdr ∧ t.master.mctxWe = s.master.mctxWe ∧
        t.master.mctxWdata = s.master.mctxWdata)

/-- `mrdata` takes `d_s2` in the tick a read's acknowledge is observed, and is written in no other tick (R256). -/
def Obligations.DmaReadDataCapture : Prop :=
  ∀ s t : State, step s = .next t →
    t.master.mrdata =
      (if s.master.M = .waitAck ∧ s.sync.s2.dsackN ≠ 0b11#2 ∧ s.master.mctxWe = false then s.sync.s2.d
      else s.master.mrdata)

/-- The Master Engine's outputs: the control lines and the write data (R260, R272, R273), the address (R271), and the internal
acknowledge with its data (R261). -/
def Obligations.MasterOutputs : Prop :=
  ∀ s : State,
    ((out s).aOe = true ↔ s.master.M ≠ .idle) ∧ (out s).ctlOe = (out s).aOe ∧
    (out s).aO = s.master.mctxAdr ++ 0b00#2 ∧ (out s).rwO = !s.master.mctxWe ∧ (out s).sizO = 0b00#2 ∧
    ((out s).asNO = false ↔ s.master.M = .assertStrobes ∨ s.master.M = .waitAck) ∧
    (out s).dsNO = (out s).asNO ∧
    (s.master.M ≠ .idle → s.master.mctxWe = true →
      (out s).dOe = true ∧ (out s).dO = s.master.mctxWdata) ∧
    ((out s).dmaAckO = true ↔ s.master.M = .complete) ∧ (out s).dmaDatO = s.master.mrdata

/-- No cancellation (R258): once `M` has left `IDLE`, what the requester presents changes neither the Master Engine's nor the
Slave Responder's next registers, and until `COMPLETE` it does not change the arbiter's. -/
def Obligations.TransferNotCancellable : Prop :=
  ∀ (s : State) (cyc stb we : Bool) (adr : WordAddr) (dat : Word), s.master.M ≠ .idle →
    ∃ t u, step s = .next t ∧
      step { s with inputs := { s.inputs with dmaCyc := cyc, dmaStb := stb, dmaWe := we, dmaAdr := adr,
                                              dmaDat := dat } } = .next u ∧
      u.master = t.master ∧ u.slave = t.slave ∧
      (s.A = .own → s.master.M ≠ .complete → u.A = t.A)

/-- The lane select of the `dma` instance is read by no rule (R263): it changes nothing of the next registers and flags. -/
def Obligations.DmaLaneSelectIgnored : Prop :=
  ∀ (s : State) (m : LaneMask),
    ∃ t u, step s = .next t ∧ step { s with inputs := { s.inputs with dmaSel := m } } = .next u ∧
      u.sync = t.sync ∧ u.slave = t.slave ∧ u.A = t.A ∧ u.master = t.master ∧ u.faults = t.faults

/-- No timeout (R259): as long as no acknowledge is observed and no reset comes, the Master Engine stays in `WAIT_ACK` with the
strobes asserted, the bus owned and no internal acknowledge, whatever the request does. Where that never ends, the run is the hang
of R294, and none of its ticks is quiescent. -/
def Obligations.UnacknowledgedTransferStalls : Prop :=
  (∀ (tr : Nat → State) (n : Nat), isTrace tr → (tr 0).master.M = .waitAck → (tr 0).A = .own →
    (∀ k, k < n → (tr k).inputs.rst = false ∧ (tr k).sync.s2.dsackN = 0b11#2) →
    ∀ k, k ≤ n → (tr k).master = (tr 0).master ∧ (out (tr k)).ownO = true ∧
      (out (tr k)).ctlOe = true ∧ (out (tr k)).asNO = false ∧ (out (tr k)).dsNO = false ∧
      (out (tr k)).dmaAckO = false) ∧
  (∀ tr : Nat → State, isTrace tr → (tr 0).master.M = .waitAck → (tr 0).A = .own →
    (∀ k, (tr k).inputs.rst = false ∧ (tr k).sync.s2.dsackN = 0b11#2) →
    hangs tr ∧ ∀ k, quiescent (tr k) = false)

/-- The sequences `DmaRead` and `DmaWrite` (R265, R266) with `n` ticks of waiting for the external acknowledge: address, direction,
size and write data in every tick, strobes in the middle ones, the acknowledge for one tick with the data captured, then
release; the bus stays owned up to `COMPLETE` (R236, R253 to R257, R260, R261). -/
def Obligations.DmaTransferSequence : Prop :=
  ∀ (tr : Nat → State) (n : Nat), isTrace tr → masterStarts (tr 0) = true →
    (∀ k, k ≤ n + 4 → (tr k).inputs.rst = false) →
    (∀ k, 3 ≤ k → k ≤ n + 2 → (tr k).sync.s2.dsackN = 0b11#2) →
    (tr (n + 3)).sync.s2.dsackN ≠ 0b11#2 →
    (∀ k, 1 ≤ k → k ≤ n + 4 →
      (out (tr k)).ownO = true ∧ (out (tr k)).aOe = true ∧ (out (tr k)).ctlOe = true ∧
        (out (tr k)).aO = byteAddr (tr 0).inputs.dmaAdr ∧ (out (tr k)).rwO = !(tr 0).inputs.dmaWe ∧
        (out (tr k)).sizO = 0b00#2 ∧
        ((tr 0).inputs.dmaWe = true → (out (tr k)).dOe = true ∧ (out (tr k)).dO = (tr 0).inputs.dmaDat) ∧
        ((out (tr k)).asNO = false ↔ 2 ≤ k ∧ k ≤ n + 3) ∧
        ((out (tr k)).dmaAckO = true ↔ k = n + 4)) ∧
    (out (tr (n + 4))).dmaDatO =
      (if (tr 0).inputs.dmaWe = true then (tr 0).master.mrdata else (tr (n + 3)).sync.s2.d) ∧
    (tr (n + 5)).master.M = .idle ∧ (out (tr (n + 5))).aOe = false ∧ (out (tr (n + 5))).ctlOe = false

/-- `M ≠ IDLE` implies `A = OWN` after every reset edge, every step keeps it, and so the Master Engine drives the external bus
only while the block holds ownership (R268). -/
def Obligations.MasterDrivesOnlyWhileOwning : Prop :=
  (∀ s t : State, s.inputs.rst = true → step s = .next t → masterOwnsBus t) ∧
  (∀ s t : State, masterOwnsBus s → step s = .next t → masterOwnsBus t) ∧
  (∀ s : State, masterOwnsBus s →
    ((out s).aOe = true ∨ (out s).ctlOe = true ∨ mDrive s.master = true) → (out s).ownO = true)

/-- The same two invariants hold right after reset (the state of log 3). -/
def Obligations.InvariantsHoldAtReset : Prop :=
  masterOwnsBus State.reset ∧ contextSound State.reset

/-! ## Synchronizer Bank and decoder -/

/-- Stage 2 takes stage 1's value and `as_prev` takes `as_n_s2` at every edge, whatever `rst` is (R140, R144); under the draw that
samples every change at once, stage 1 takes the wire. -/
def Obligations.SynchronizerStages : Prop :=
  ∀ s : State, ∃ t, step s = .next t ∧ t.sync.s2 = s.sync.s1 ∧ t.sync.asPrev = s.sync.s2.asN ∧
    (s.inputs.late = some promptDraw → t.sync.s1 = wires s)

/-- Every bit stage 1 samples is the wire's old or its new level, each bit on its own (R146, R147). That the old level is the wire of
the tick before, as the model's field `lastWire` records it, is the model's choice (DESIGN CHOICE, log 7; for a line nobody drove, the
value drawn then, log 20). -/
def Obligations.SampleIsOldOrNewLevel : Prop :=
  ∀ s t : State, step s = .next t →
    t.lastWire = wires s ∧
    oldOrNew t.sync.s1.a s.lastWire.a (wires s).a ∧ oldOrNew t.sync.s1.d s.lastWire.d (wires s).d ∧
    oldOrNew t.sync.s1.siz s.lastWire.siz (wires s).siz ∧
    oldOrNew t.sync.s1.dsackN s.lastWire.dsackN (wires s).dsackN ∧
    (t.sync.s1.asN = s.lastWire.asN ∨ t.sync.s1.asN = (wires s).asN) ∧
    (t.sync.s1.dsN = s.lastWire.dsN ∨ t.sync.s1.dsN = (wires s).dsN) ∧
    (t.sync.s1.rw = s.lastWire.rw ∨ t.sync.s1.rw = (wires s).rw) ∧
    (t.sync.s1.bgN = s.lastWire.bgN ∨ t.sync.s1.bgN = (wires s).bgN) ∧
    (t.sync.s1.bgackN = s.lastWire.bgackN ∨ t.sync.s1.bgackN = (wires s).bgackN)

/-- Both outcomes of every changed bit are admitted, each bit on its own (R147): any sample that is bit by bit old or new is what some
draw of the inputs gives. The old level as the field `lastWire` (log 7) and the draw as the field `inputs.late` (log 6) are the model's
choices (DESIGN CHOICE), so this is derived and no rule as it stands. -/
def Obligations.EverySampleIsAdmitted : Prop :=
  ∀ (s : State) (x : Lines),
    oldOrNew x.a s.lastWire.a (wires s).a → oldOrNew x.d s.lastWire.d (wires s).d →
    oldOrNew x.siz s.lastWire.siz (wires s).siz → oldOrNew x.dsackN s.lastWire.dsackN (wires s).dsackN →
    (x.asN = s.lastWire.asN ∨ x.asN = (wires s).asN) → (x.dsN = s.lastWire.dsN ∨ x.dsN = (wires s).dsN) →
    (x.rw = s.lastWire.rw ∨ x.rw = (wires s).rw) → (x.bgN = s.lastWire.bgN ∨ x.bgN = (wires s).bgN) →
    (x.bgackN = s.lastWire.bgackN ∨ x.bgackN = (wires s).bgackN) →
    ∃ l t, step { s with inputs := { s.inputs with late := some l } } = .next t ∧ t.sync.s1 = x

/-- A wire of tick k is what the rules read in tick k+2, no earlier (R143), under the draw that samples it at once. -/
def Obligations.WireSeenTwoTicksLater : Prop :=
  ∀ s t u : State, s.inputs.late = some promptDraw → step s = .next t → step t = .next u →
    t.sync.s2 = s.sync.s1 ∧ u.sync.s2 = wires s ∧ (∀ v, step u = .next v → v.sync.asPrev = (wires s).asN)

/-- No rule of a state machine reads a raw line or a stage-1 register (R142): states that agree on what they may read step to the
same `S`, `A`, `M`, contexts and data registers. -/
def Obligations.RawLinesIsolated : Prop :=
  ∀ s s' t t' : State, sameView s s' → step s = .next t → step s' = .next t' →
    t.slave = t'.slave ∧ t.A = t'.A ∧ t.master = t'.master ∧ t.sync.asPrev = t'.sync.asPrev

/-- The falling edge event (R145): it lasts one tick, and it comes in exactly the ticks where stage 2 has just gone from negated to
asserted. -/
def Obligations.FallLastsOneTick : Prop :=
  ∀ s t : State, step s = .next t →
    (fall s = true ↔ s.sync.asPrev = true ∧ s.sync.s2.asN = false) ∧
    (fall t = true ↔ s.sync.s2.asN = true ∧ t.sync.s2.asN = false) ∧
    (fall s = true → fall t = false)

/-- The selection predicate (R160). -/
def Obligations.SelectionPredicate : Prop :=
  ∀ s : State, sel s = true ↔
    s.sync.s2.a.extractLsb' 24 8 = 0xF9#8 ∨ s.sync.s2.a.extractLsb' 24 8 = 0xFA#8 ∨
      s.sync.s2.a.extractLsb' 24 8 = 0xFB#8

/-- The lane-mask table, all sixteen cases (R161). -/
def Obligations.LaneMaskTable : Prop :=
  (∀ off, lane 0b00#2 off = 0b1111#4) ∧
  lane 0b01#2 0b00#2 = 0b1000#4 ∧ lane 0b01#2 0b01#2 = 0b0100#4 ∧
  lane 0b01#2 0b10#2 = 0b0010#4 ∧ lane 0b01#2 0b11#2 = 0b0001#4 ∧
  lane 0b10#2 0b00#2 = 0b1100#4 ∧ lane 0b10#2 0b10#2 = 0b0011#4 ∧
  lane 0b10#2 0b01#2 = 0b1111#4 ∧ lane 0b10#2 0b11#2 = 0b1111#4 ∧
  lane 0b11#2 0b00#2 = 0b1110#4 ∧ lane 0b11#2 0b01#2 = 0b1111#4 ∧
  lane 0b11#2 0b10#2 = 0b1111#4 ∧ lane 0b11#2 0b11#2 = 0b1111#4

/-! ## Outputs, wires and faults -/

/-- Every output is a function of the registers alone (R47): states that agree on them have the same outputs, whatever the inputs. -/
def Obligations.OutputsReadNoInput : Prop :=
  ∀ s t : State, s.sync.s2.d = t.sync.s2.d → s.slave = t.slave → s.A = t.A → s.master = t.master →
    out s = out t

/-- The data drivers (R273): the Master Engine's value first, then the Slave Responder's, and no drive without one of them. -/
def Obligations.DataDriverSelection : Prop :=
  ∀ s : State,
    ((out s).dOe = true ↔
      (s.master.M ≠ .idle ∧ s.master.mctxWe = true) ∨ s.slave.S = .readDrive) ∧
    (s.master.M ≠ .idle ∧ s.master.mctxWe = true → (out s).dO = s.master.mctxWdata) ∧
    (¬ (s.master.M ≠ .idle ∧ s.master.mctxWe = true) → s.slave.S = .readDrive →
      (out s).dO = s.slave.rdata) ∧
    (s.master.M ≠ .idle → s.master.mctxWe = true → s.slave.S = .readDrive → contention s = true)

/-- The outputs with all three machines in `IDLE` (R51): no line driven, no request and no acknowledge, the address, mask and data
outputs carrying the registers behind them. -/
def Obligations.IdleDrivesNothing : Prop :=
  ∀ s : State, s.slave.S = .idle → s.A = .idle → s.master.M = .idle →
    (out s).aOe = false ∧ (out s).dOe = false ∧ (out s).ctlOe = false ∧ (out s).dsackOe = false ∧
      (out s).brOe = false ∧ (out s).bgackOe = false ∧ (out s).srdCycO = false ∧ (out s).srdStbO = false ∧
      (out s).swrCycO = false ∧ (out s).swrStbO = false ∧ (out s).dmaAckO = false ∧ (out s).ownO = false ∧
      (out s).srdAdrO = s.slave.ctxAdr ∧ (out s).srdSelO = s.slave.ctxMask ∧
      (out s).swrAdrO = s.slave.ctxAdr ∧ (out s).swrSelO = s.slave.ctxMask ∧
      (out s).dmaDatO = s.master.mrdata ∧ (out s).swrDatO = s.sync.s2.d

/-- Wire resolution (R281): one driver's value, pull-ups on undriven `as_n`, `ds_n` and `rw`, wired-AND on the acknowledge, bus-in-use
and bus-request lines, the environment's grant. What an undriven `a`, `d`, `siz` or a fought line reads is a free value (log 5), of
which nothing is said. -/
def Obligations.WireResolution : Prop :=
  ∀ s : State,
    ((out s).aOe = true → s.inputs.a = none → (wires s).a = (out s).aO) ∧
    (∀ v, (out s).aOe = false → s.inputs.a = some v → (wires s).a = v) ∧
    ((out s).dOe = true → s.inputs.d = none → (wires s).d = (out s).dO) ∧
    (∀ v, (out s).dOe = false → s.inputs.d = some v → (wires s).d = v) ∧
    ((out s).ctlOe = true →
      (s.inputs.asN = none → (wires s).asN = (out s).asNO) ∧
      (s.inputs.dsN = none → (wires s).dsN = (out s).dsNO) ∧
      (s.inputs.rw = none → (wires s).rw = (out s).rwO) ∧
      (s.inputs.siz = none → (wires s).siz = (out s).sizO)) ∧
    ((out s).ctlOe = false →
      (∀ v, s.inputs.asN = some v → (wires s).asN = v) ∧ (∀ v, s.inputs.dsN = some v → (wires s).dsN = v) ∧
      (∀ v, s.inputs.rw = some v → (wires s).rw = v) ∧ (∀ v, s.inputs.siz = some v → (wires s).siz = v) ∧
      (s.inputs.asN = none → (wires s).asN = true) ∧ (s.inputs.dsN = none → (wires s).dsN = true) ∧
      (s.inputs.rw = none → (wires s).rw = true)) ∧
    (∀ k, (wires s).dsackN.getLsbD k = true ↔
      ((out s).dsackOe = false ∨ (out s).dsackNO.getLsbD k = true) ∧ s.inputs.dsackN.getLsbD k = true) ∧
    ((wires s).bgackN = false ↔ (out s).bgackOe = true ∨ s.inputs.bgackN = false) ∧
    (wires s).bgN = s.inputs.bgN ∧
    (brWire s = false ↔ (out s).brOe = true ∨ s.inputs.brN = false)

/-- The fault flags (R296): set in any tick whose condition holds, never cleared, and without effect on the block: another value of the
flags changes nothing else of the next state (R276). The condition of `F2` is spelled out: in the tick the block's enable and a drive
of the environment meet on one of the tri-state lines `a`, `d`, `as_n`, `ds_n`, `rw`, `siz` (R281, R296); that equal values fight too is
log 16. An environment that keeps its duties (R305, as Safety.lean reads them, log 24 and log 26) has `F2` never recorded. -/
def Obligations.FaultFlagsStickyWithoutEffect : Prop :=
  (∀ (s : State) (f : FaultFlags), ∃ t u, step s = .next t ∧ step { s with faults := f } = .next u ∧
    (t.faults.contention = true ↔ s.faults.contention = true ∨ contention s = true) ∧
    (t.faults.busFight = true ↔ s.faults.busFight = true ∨ busFight s = true) ∧
    u = { t with faults := u.faults }) ∧
  (∀ s : State, busFight s = true ↔
    ((out s).aOe = true ∧ s.inputs.a ≠ none) ∨ ((out s).dOe = true ∧ s.inputs.d ≠ none) ∨
    ((out s).ctlOe = true ∧
      (s.inputs.asN ≠ none ∨ s.inputs.dsN ≠ none ∨ s.inputs.rw ≠ none ∨ s.inputs.siz ≠ none))) ∧
  (∀ (e : Agents) (tr : Nat → State) (n : Nat), WellBehavedRun e tr n → (tr n).faults.busFight = false →
    ∀ k, n ≤ k → (tr k).faults.busFight = false)

/-- The contention predicate (R276), and that it needs a DMA write in flight and an open slave read, so that under R268 it needs
ownership. -/
def Obligations.ContentionNeedsOwnedWrite : Prop :=
  ∀ s : State, (contention s = true ↔
      s.master.M ≠ .idle ∧ s.master.mctxWe = true ∧ s.slave.S = .readDrive) ∧
    (contention s = true → masterOwnsBus s → (out s).ownO = true ∧ (out s).dO = s.master.mctxWdata)

/-! ## Reset -/

/-- A reset edge is the edge without reset, but for `S`, `A` and `M` forced to `IDLE` (R320, R49). -/
def Obligations.ResetEdgeForcesIdle : Prop :=
  ∀ s : State, ∃ t u,
    step { s with inputs := { s.inputs with rst := false } } = .next t ∧
    step { s with inputs := { s.inputs with rst := true } } = .next u ∧
    u.slave = { t.slave with S := .idle } ∧ u.A = .idle ∧ u.master = { t.master with M := .idle } ∧
    u.sync = t.sync ∧ u.faults = t.faults ∧ u.script = t.script ∧ u.lastWire = t.lastWire ∧
    u.draws = t.draws

/-- Three reset ticks from any state flush the synchronizer (R321): the machines are idle, and stage 1, stage 2 and `as_prev` hold
samples taken in those ticks. -/
def Obligations.ThreeResetTicksFlush : Prop :=
  ∀ s t u v : State, s.inputs.rst = true → t.inputs.rst = true → u.inputs.rst = true →
    step s = .next t → step t = .next u → step u = .next v →
    v.slave.S = .idle ∧ v.A = .idle ∧ v.master.M = .idle ∧
      v.sync.s1 = sampled u ∧ v.sync.s2 = sampled t ∧ v.sync.asPrev = (sampled s).asN ∧
      (fall v = true ↔ (sampled s).asN = true ∧ (sampled t).asN = false)

/-- The state right after reset, as log 3 deduces it from R49, R50, R120 and R122: idle, quiescent, the strobes and
handshake lines at their idle levels in both stages, no fault flag, and nothing about to start. -/
def Obligations.ResetStateIsQuiescent : Prop :=
  State.reset.slave.S = .idle ∧ State.reset.A = .idle ∧ State.reset.master.M = .idle ∧
    quiescent State.reset = true ∧ unflagged State.reset = true ∧
    State.reset.sync.s1.asN = true ∧ State.reset.sync.s2.asN = true ∧ State.reset.sync.asPrev = true ∧
    State.reset.sync.s2.dsackN = 0b11#2 ∧ State.reset.sync.s2.bgN = true ∧
    State.reset.sync.s2.bgackN = true ∧ start State.reset = false ∧ req State.reset = false
end

