-- ==== Sys2Proof/Laws/State.lean ====
section
/-! SUPPORT. One lemma per field of each update of State and of the component registers, each true by
unfolding the record. -/

namespace Sys2Proof.Machine

variable (v : SlaveRegs) (m : MasterRegs) (s : State)

@[simp] theorem tickWith_sync : (tickWith v m s).sync = syncNext s := rfl
@[simp] theorem tickWith_slave : (tickWith v m s).slave = resetSlave s.inputs.rst v := rfl
@[simp] theorem tickWith_A : (tickWith v m s).A = resetArb s.inputs.rst (arbNext s) := rfl
@[simp] theorem tickWith_master : (tickWith v m s).master = resetMaster s.inputs.rst m := rfl
@[simp] theorem tickWith_faults : (tickWith v m s).faults = faultsNext s := rfl
@[simp] theorem tickWith_inputs : (tickWith v m s).inputs = inputsNext s := rfl
@[simp] theorem tickWith_script : (tickWith v m s).script = s.script.tail := rfl
@[simp] theorem tickWith_lastWire : (tickWith v m s).lastWire = wires s := rfl
@[simp] theorem tickWith_draws : (tickWith v m s).draws = s.draws + 1 := rfl

@[simp] theorem syncNext_s1 : (syncNext s).s1 = sampled s := rfl
@[simp] theorem syncNext_s2 : (syncNext s).s2 = s.sync.s1 := rfl
@[simp] theorem syncNext_asPrev : (syncNext s).asPrev = s.sync.s2.asN := rfl

@[simp] theorem slaveAbort_S : (slaveAbort v).S = .idle := rfl
@[simp] theorem slaveAbort_ctxAdr : (slaveAbort v).ctxAdr = v.ctxAdr := rfl
@[simp] theorem slaveAbort_ctxDir : (slaveAbort v).ctxDir = v.ctxDir := rfl
@[simp] theorem slaveAbort_ctxMask : (slaveAbort v).ctxMask = v.ctxMask := rfl
@[simp] theorem slaveAbort_rdata : (slaveAbort v).rdata = v.rdata := rfl

@[simp] theorem slaveBegin_S (read : Bool) (mask : LaneMask) :
    (slaveBegin read mask s).S = if read then .readRequest else .writeWaitData := rfl
@[simp] theorem slaveBegin_ctxAdr (read : Bool) (mask : LaneMask) :
    (slaveBegin read mask s).ctxAdr = wordAddr s.sync.s2.a := rfl
@[simp] theorem slaveBegin_ctxDir (read : Bool) (mask : LaneMask) :
    (slaveBegin read mask s).ctxDir = read := rfl
@[simp] theorem slaveBegin_ctxMask (read : Bool) (mask : LaneMask) :
    (slaveBegin read mask s).ctxMask = mask := rfl
@[simp] theorem slaveBegin_rdata (read : Bool) (mask : LaneMask) :
    (slaveBegin read mask s).rdata = s.slave.rdata := rfl

@[simp] theorem masterBegin_M (we : Bool) : (masterBegin we s).M = .driveAddress := rfl
@[simp] theorem masterBegin_mctxAdr (we : Bool) : (masterBegin we s).mctxAdr = s.inputs.dmaAdr := rfl
@[simp] theorem masterBegin_mctxWe (we : Bool) : (masterBegin we s).mctxWe = we := rfl
@[simp] theorem masterBegin_mctxWdata (we : Bool) :
    (masterBegin we s).mctxWdata = s.inputs.dmaDat := rfl
@[simp] theorem masterBegin_mrdata (we : Bool) : (masterBegin we s).mrdata = s.master.mrdata := rfl

@[simp] theorem masterCapture_M : (masterCapture s).M = .complete := rfl
@[simp] theorem masterCapture_mctxAdr : (masterCapture s).mctxAdr = s.master.mctxAdr := rfl
@[simp] theorem masterCapture_mctxWe : (masterCapture s).mctxWe = s.master.mctxWe := rfl
@[simp] theorem masterCapture_mctxWdata : (masterCapture s).mctxWdata = s.master.mctxWdata := rfl
@[simp] theorem masterCapture_mrdata :
    (masterCapture s).mrdata = if s.master.mctxWe then s.master.mrdata else s.sync.s2.d := rfl

@[simp] theorem resetSlave_false : resetSlave false v = v := rfl
@[simp] theorem resetSlave_true : resetSlave true v = { v with S := .idle } := rfl
@[simp] theorem resetSlave_ctxAdr (r : Bool) : (resetSlave r v).ctxAdr = v.ctxAdr := by cases r <;> rfl
@[simp] theorem resetSlave_ctxDir (r : Bool) : (resetSlave r v).ctxDir = v.ctxDir := by cases r <;> rfl
@[simp] theorem resetSlave_ctxMask (r : Bool) : (resetSlave r v).ctxMask = v.ctxMask := by cases r <;> rfl
@[simp] theorem resetSlave_rdata (r : Bool) : (resetSlave r v).rdata = v.rdata := by cases r <;> rfl
@[simp] theorem resetArb_false (A : AState) : resetArb false A = A := rfl
@[simp] theorem resetArb_true (A : AState) : resetArb true A = .idle := rfl
@[simp] theorem resetMaster_false : resetMaster false m = m := rfl
@[simp] theorem resetMaster_true : resetMaster true m = { m with M := .idle } := rfl
@[simp] theorem resetMaster_mctxAdr (r : Bool) : (resetMaster r m).mctxAdr = m.mctxAdr := by cases r <;> rfl
@[simp] theorem resetMaster_mctxWe (r : Bool) : (resetMaster r m).mctxWe = m.mctxWe := by cases r <;> rfl
@[simp] theorem resetMaster_mctxWdata (r : Bool) :
    (resetMaster r m).mctxWdata = m.mctxWdata := by cases r <;> rfl
@[simp] theorem resetMaster_mrdata (r : Bool) : (resetMaster r m).mrdata = m.mrdata := by cases r <;> rfl

@[simp] theorem withSD13_A (w : BitVec 13) : (s.withSD13 w).A = s.A := rfl
@[simp] theorem withSD13_master (w : BitVec 13) : (s.withSD13 w).master = s.master := rfl
@[simp] theorem withSD13_S (w : BitVec 13) : (s.withSD13 w).slave.S = .idle := rfl
@[simp] theorem withDD3_A (w : BitVec 3) : (s.withDD3 w).A = .own := rfl
@[simp] theorem withDD3_slave (w : BitVec 3) : (s.withDD3 w).slave = s.slave := rfl
@[simp] theorem withDD3_sync (w : BitVec 3) : (s.withDD3 w).sync = s.sync := rfl
@[simp] theorem withDD3_M (w : BitVec 3) : (s.withDD3 w).master.M = .idle := rfl

end Sys2Proof.Machine
end

