-- ==== Sys2Proof/Laws/Ops.lean ====
section
/-! SUPPORT. What each shared operation can do, said once, so that a proof cites it instead of unfolding it. -/

namespace Sys2Proof.Machine

/-! ## Conditions -/

theorem sel_iff (s : State) : sel s = true ↔ winOf s.sync.s2.a ∈ Config.slotIds := by
  simp [sel]

theorem fall_iff (s : State) : fall s = true ↔ s.sync.asPrev = true ∧ s.sync.s2.asN = false := by
  simp [fall]

theorem start_iff (s : State) :
    start s = true ↔ s.slave.S = .idle ∧ fall s = true ∧ sel s = true := by
  simp [start, and_assoc]

theorem masterStarts_iff (s : State) :
    masterStarts s = true ↔ s.master.M = .idle ∧ s.A = .own ∧ req s = true := by
  simp [masterStarts, and_assoc]

theorem busIdle_iff (s : State) :
    busIdle s = true ↔ s.sync.s2.asN = true ∧ s.sync.s2.dsackN = 0b11#2 ∧ s.sync.s2.bgackN = true := by
  simp [busIdle, and_assoc]

theorem ackSeen_iff (s : State) : ackSeen s = true ↔ s.sync.s2.dsackN ≠ 0b11#2 := by
  simp [ackSeen]

theorem releasable_iff (m : MState) : releasable m = true ↔ m = .idle ∨ m = .complete := by
  simp [releasable]

/-! ## Slave Responder -/

/-- Everything `slaveContinue` can do. -/
theorem slaveContinue_cases (s : State) :
    (slaveContinue s = s.slave) ∨
    (s.slave.S ≠ .idle ∧ withdrawn s = true ∧ slaveContinue s = slaveAbort s.slave) ∨
    (s.slave.S = .readRequest ∧ withdrawn s = false ∧ s.inputs.srdAck = true ∧
      slaveContinue s = { s.slave with S := .readDrive, rdata := s.inputs.srdDat }) ∨
    (s.slave.S = .writeWaitData ∧ withdrawn s = false ∧ s.sync.s2.dsN = false ∧
      slaveContinue s = { s.slave with S := .writeRequest }) ∨
    (s.slave.S = .writeRequest ∧ withdrawn s = false ∧ s.inputs.swrAck = true ∧
      slaveContinue s = { s.slave with S := .writeAck }) := by
  unfold slaveContinue
  cases h : s.slave.S <;> cases hw : withdrawn s <;> simp
  · cases s.inputs.srdAck <;> simp
  · cases s.sync.s2.dsN <;> simp
  · cases s.inputs.swrAck <;> simp

theorem slaveContinue_withdrawn (s : State) (h : s.slave.S ≠ .idle) (hw : withdrawn s = true) :
    slaveContinue s = slaveAbort s.slave := by
  unfold slaveContinue
  cases hs : s.slave.S <;> simp_all

theorem slaveNext_start (s : State) (h : start s = true) :
    slaveNext s = slaveBegin s.sync.s2.rw (lane s.sync.s2.siz (offOf s.sync.s2.a)) s := by
  simp [slaveNext, h]

theorem slaveNext_continue (s : State) (h : start s = false) : slaveNext s = slaveContinue s := by
  simp [slaveNext, h]

theorem start_false_of_busy (s : State) (h : s.slave.S ≠ .idle) : start s = false := by
  simp [start, h]

/-! ## Bus Arbiter -/

/-- Everything `arbNext` can do besides staying. -/
theorem arbNext_cases (s : State) :
    (arbNext s = s.A) ∨
    (s.A = .idle ∧ req s = true ∧ arbNext s = .request) ∨
    (s.A = .request ∧ req s = true ∧ granted s = true ∧ arbNext s = .waitFree) ∨
    (s.A = .waitFree ∧ req s = true ∧ busIdle s = true ∧ arbNext s = .own) ∨
    (s.A ≠ .idle ∧ req s = false ∧ (s.A = .own → releasable s.master.M = true) ∧ arbNext s = .idle) := by
  unfold arbNext
  cases s.A <;> cases req s <;> cases granted s <;> cases busIdle s <;>
    cases releasable s.master.M <;> decide

/-! ## Master Transfer Engine -/

/-- Everything `masterContinue` can do. -/
theorem masterContinue_cases (s : State) :
    (masterContinue s = s.master ∧
      (s.master.M = .idle ∨ (s.master.M = .waitAck ∧ ackSeen s = false))) ∨
    (s.master.M = .driveAddress ∧ masterContinue s = { s.master with M := .assertStrobes }) ∨
    (s.master.M = .assertStrobes ∧ masterContinue s = { s.master with M := .waitAck }) ∨
    (s.master.M = .waitAck ∧ ackSeen s = true ∧ masterContinue s = masterCapture s) ∨
    (s.master.M = .complete ∧ masterContinue s = { s.master with M := .idle }) := by
  unfold masterContinue
  cases hM : s.master.M <;> simp
  cases ackSeen s <;> simp

theorem masterNext_start (s : State) (h : masterStarts s = true) :
    masterNext s = masterBegin s.inputs.dmaWe s := by
  simp [masterNext, h]

theorem masterNext_continue (s : State) (h : masterStarts s = false) :
    masterNext s = masterContinue s := by
  simp [masterNext, h]

theorem masterStarts_false_of_busy (s : State) (h : s.master.M ≠ .idle) : masterStarts s = false := by
  simp [masterStarts, h]

/-! ## Samples and wires -/

theorem sampleBit_cases (l o n : Bool) : sampleBit l o n = o ∨ sampleBit l o n = n := by
  cases l <;> cases o <;> cases n <;> simp [sampleBit]

theorem sampleVec_eq {w : Nat} (l o n : BitVec w) : sampleVec l o n = (n &&& ~~~ l) ||| (o &&& l) := by
  unfold sampleVec
  split
  · next h =>
    subst h
    ext k hk
    simp only [BitVec.getElem_or, BitVec.getElem_and, BitVec.getElem_not]
    cases o[k] <;> cases l[k] <;> rfl
  · rfl

@[simp] theorem sampleBit_prompt (o n : Bool) : sampleBit false o n = n := by
  cases o <;> cases n <;> simp [sampleBit]

@[simp] theorem sampleVec_prompt {w : Nat} (o n : BitVec w) : sampleVec 0#w o n = n := by
  simp [sampleVec_eq]

@[simp] theorem sampleLines_prompt (o n : Lines) : sampleLines promptDraw o n = n := by
  simp [sampleLines, promptDraw]

@[simp] theorem resolveTri_block {α : Type} (v i d : α) : resolveTri true v none i d = v := rfl
@[simp] theorem resolveTri_env {α : Type} (v x i d : α) : resolveTri false v (some x) i d = x := rfl
@[simp] theorem resolveTri_undriven {α : Type} (v i d : α) : resolveTri false v none i d = i := rfl
@[simp] theorem resolveTri_fought {α : Type} (v x i d : α) : resolveTri true v (some x) i d = d := rfl

theorem fought_iff {α : Type} (oe : Bool) (e : Option α) :
    fought oe e = true ↔ oe = true ∧ e.isSome = true := by
  simp [fought]

/-! ## Fields of addresses and descriptors -/

theorem window_of_wordAddr (a : Addr) : (wordAddr a).extractLsb' 22 8 = winOf a := by
  apply BitVec.eq_of_getLsbD_eq
  intro i hi
  simp [wordAddr, winOf, hi, ← Nat.add_assoc, show 22 + i < 30 by omega]

theorem wordAddr_byteAddr (w : WordAddr) : wordAddr (byteAddr w) = w := by
  apply BitVec.eq_of_getLsbD_eq
  intro i hi
  simp [wordAddr, byteAddr, hi, BitVec.getLsbD_append]
  omega

theorem sd13Win_sd13Word (win : Win) (rw : Bool) (siz : SizeCode) (off : BitVec 2) :
    sd13Win (sd13Word win rw siz off) = win := by
  apply BitVec.eq_of_getLsbD_eq
  intro i hi
  unfold sd13Win sd13Word
  rw [BitVec.getLsbD_extractLsb', BitVec.getLsbD_append, BitVec.getLsbD_append, BitVec.getLsbD_append]
  simp [Config.sizW, hi, show ¬ 5 + i < 2 by omega, show ¬ 5 + i - 2 < 2 by omega,
    show ¬ 5 + i - 2 - 2 < 1 by omega, show 5 + i - 2 - 2 - 1 = i by omega]

theorem sd13Rw_sd13Word (win : Win) (rw : Bool) (siz : SizeCode) (off : BitVec 2) :
    sd13Rw (sd13Word win rw siz off) = rw := by
  unfold sd13Rw sd13Word
  rw [BitVec.getLsbD_append, BitVec.getLsbD_append, BitVec.getLsbD_append]
  simp [Config.sizW]

theorem sd13Siz_sd13Word (win : Win) (rw : Bool) (siz : SizeCode) (off : BitVec 2) :
    sd13Siz (sd13Word win rw siz off) = siz := by
  apply BitVec.eq_of_getLsbD_eq
  intro i hi
  simp [sd13Siz, sd13Word, BitVec.getLsbD_append, hi]
  omega

theorem sd13Off_sd13Word (win : Win) (rw : Bool) (siz : SizeCode) (off : BitVec 2) :
    sd13Off (sd13Word win rw siz off) = off := by
  apply BitVec.eq_of_getLsbD_eq
  intro i hi
  simp [sd13Off, sd13Word, BitVec.getLsbD_append, hi]

theorem sd13Word_fields (w : BitVec 13) :
    sd13Word (sd13Win w) (sd13Rw w) (sd13Siz w) (sd13Off w) = w := by
  apply BitVec.eq_of_getLsbD_eq
  intro i hi
  unfold sd13Word sd13Win sd13Rw sd13Siz sd13Off
  rw [BitVec.getLsbD_append, BitVec.getLsbD_append, BitVec.getLsbD_append]
  have h : i = 0 ∨ i = 1 ∨ i = 2 ∨ i = 3 ∨ i = 4 ∨ i = 5 ∨ i = 6 ∨ i = 7 ∨ i = 8 ∨
      i = 9 ∨ i = 10 ∨ i = 11 ∨ i = 12 := by omega
  rcases h with rfl | rfl | rfl | rfl | rfl | rfl | rfl | rfl | rfl | rfl | rfl | rfl | rfl <;>
    simp

/-! ## Operations -/

theorem slaveOperation_start (read : Bool) (mask : LaneMask) (s : State) (h : start s = true) :
    slaveOperation read mask s = .next (tickWith (slaveBegin read mask s) (masterNext s) s) := by
  simp [slaveOperation, h]

theorem slaveOperation_continue (read : Bool) (mask : LaneMask) (s : State) (h : start s = false) :
    slaveOperation read mask s = .next (tickWith (slaveContinue s) (masterNext s) s) := by
  simp [slaveOperation, h]

theorem dmaOperation_start (we : Bool) (s : State) (h : masterStarts s = true) :
    dmaOperation we s = .next (tickWith (slaveNext s) (masterBegin we s) s) := by
  simp [dmaOperation, h]

theorem dmaOperation_continue (we : Bool) (s : State) (h : masterStarts s = false) :
    dmaOperation we s = .next (tickWith (slaveNext s) (masterContinue s) s) := by
  simp [dmaOperation, h]

end Sys2Proof.Machine
end

