-- ==== Sys2Proof/Laws/PerInstr.lean ====
section
/-! SUPPORT. A family of statements about each operation as syntax: the encoder agrees with the opcode
table's own match and mask, written from another column of the spec (30_encoding.md R115, R116). -/

namespace Sys2Proof.Laws.TableRow

/-- The row of a well-formed operation selects the operation's encoding. -/
def Statement (i : Instr) : Prop := i.wellFormed = true → i.row.selects (encode i) = true

theorem windows : ∀ win : Win, winInFAFB win = true → win = 0xFA#8 ∨ win = 0xFB#8 := by decide

theorem oddOffsets : ∀ off : BitVec 2, offsetOdd off = true → off = 0b01#2 ∨ off = 0b11#2 := by decide

theorem srdLF9 (off : BitVec 2) : Statement (.srdLF9 off) := by
  intro _
  revert off
  decide

theorem srdLFAFB (win : Win) (off : BitVec 2) : Statement (.srdLFAFB win off) := by
  intro h
  obtain rfl | rfl := windows _ h <;> revert off <;> decide

theorem srdB0F9 : Statement (.srdB0F9) := fun _ => by decide

theorem srdB0FAFB (win : Win) : Statement (.srdB0FAFB win) := by
  intro h
  obtain rfl | rfl := windows _ h <;> decide

theorem srdB1F9 : Statement (.srdB1F9) := fun _ => by decide

theorem srdB1FAFB (win : Win) : Statement (.srdB1FAFB win) := by
  intro h
  obtain rfl | rfl := windows _ h <;> decide

theorem srdB2F9 : Statement (.srdB2F9) := fun _ => by decide

theorem srdB2FAFB (win : Win) : Statement (.srdB2FAFB win) := by
  intro h
  obtain rfl | rfl := windows _ h <;> decide

theorem srdB3F9 : Statement (.srdB3F9) := fun _ => by decide

theorem srdB3FAFB (win : Win) : Statement (.srdB3FAFB win) := by
  intro h
  obtain rfl | rfl := windows _ h <;> decide

theorem srdW0F9 : Statement (.srdW0F9) := fun _ => by decide

theorem srdW0FAFB (win : Win) : Statement (.srdW0FAFB win) := by
  intro h
  obtain rfl | rfl := windows _ h <;> decide

theorem srdW2F9 : Statement (.srdW2F9) := fun _ => by decide

theorem srdW2FAFB (win : Win) : Statement (.srdW2FAFB win) := by
  intro h
  obtain rfl | rfl := windows _ h <;> decide

theorem srdWXF9 (off : BitVec 2) : Statement (.srdWXF9 off) := by
  intro h
  obtain rfl | rfl := oddOffsets _ h <;> decide

theorem srdWXFAFB (win : Win) (off : BitVec 2) : Statement (.srdWXFAFB win off) := by
  intro h
  simp only [Instr.wellFormed, Bool.and_eq_true] at h
  obtain rfl | rfl := windows _ h.1 <;> obtain rfl | rfl := oddOffsets _ h.2 <;> decide

theorem srdT0F9 : Statement (.srdT0F9) := fun _ => by decide

theorem srdT0FAFB (win : Win) : Statement (.srdT0FAFB win) := by
  intro h
  obtain rfl | rfl := windows _ h <;> decide

theorem srdTX1F9 (off : BitVec 2) : Statement (.srdTX1F9 off) := by
  intro h
  obtain rfl | rfl := oddOffsets _ h <;> decide

theorem srdTX1FAFB (win : Win) (off : BitVec 2) : Statement (.srdTX1FAFB win off) := by
  intro h
  simp only [Instr.wellFormed, Bool.and_eq_true] at h
  obtain rfl | rfl := windows _ h.1 <;> obtain rfl | rfl := oddOffsets _ h.2 <;> decide

theorem srdTX2F9 : Statement (.srdTX2F9) := fun _ => by decide

theorem srdTX2FAFB (win : Win) : Statement (.srdTX2FAFB win) := by
  intro h
  obtain rfl | rfl := windows _ h <;> decide

theorem swrLF9 (off : BitVec 2) : Statement (.swrLF9 off) := by
  intro _
  revert off
  decide

theorem swrLFAFB (win : Win) (off : BitVec 2) : Statement (.swrLFAFB win off) := by
  intro h
  obtain rfl | rfl := windows _ h <;> revert off <;> decide

theorem swrB0F9 : Statement (.swrB0F9) := fun _ => by decide

theorem swrB0FAFB (win : Win) : Statement (.swrB0FAFB win) := by
  intro h
  obtain rfl | rfl := windows _ h <;> decide

theorem swrB1F9 : Statement (.swrB1F9) := fun _ => by decide

theorem swrB1FAFB (win : Win) : Statement (.swrB1FAFB win) := by
  intro h
  obtain rfl | rfl := windows _ h <;> decide

theorem swrB2F9 : Statement (.swrB2F9) := fun _ => by decide

theorem swrB2FAFB (win : Win) : Statement (.swrB2FAFB win) := by
  intro h
  obtain rfl | rfl := windows _ h <;> decide

theorem swrB3F9 : Statement (.swrB3F9) := fun _ => by decide

theorem swrB3FAFB (win : Win) : Statement (.swrB3FAFB win) := by
  intro h
  obtain rfl | rfl := windows _ h <;> decide

theorem swrW0F9 : Statement (.swrW0F9) := fun _ => by decide

theorem swrW0FAFB (win : Win) : Statement (.swrW0FAFB win) := by
  intro h
  obtain rfl | rfl := windows _ h <;> decide

theorem swrW2F9 : Statement (.swrW2F9) := fun _ => by decide

theorem swrW2FAFB (win : Win) : Statement (.swrW2FAFB win) := by
  intro h
  obtain rfl | rfl := windows _ h <;> decide

theorem swrWXF9 (off : BitVec 2) : Statement (.swrWXF9 off) := by
  intro h
  obtain rfl | rfl := oddOffsets _ h <;> decide

theorem swrWXFAFB (win : Win) (off : BitVec 2) : Statement (.swrWXFAFB win off) := by
  intro h
  simp only [Instr.wellFormed, Bool.and_eq_true] at h
  obtain rfl | rfl := windows _ h.1 <;> obtain rfl | rfl := oddOffsets _ h.2 <;> decide

theorem swrT0F9 : Statement (.swrT0F9) := fun _ => by decide

theorem swrT0FAFB (win : Win) : Statement (.swrT0FAFB win) := by
  intro h
  obtain rfl | rfl := windows _ h <;> decide

theorem swrTX1F9 (off : BitVec 2) : Statement (.swrTX1F9 off) := by
  intro h
  obtain rfl | rfl := oddOffsets _ h <;> decide

theorem swrTX1FAFB (win : Win) (off : BitVec 2) : Statement (.swrTX1FAFB win off) := by
  intro h
  simp only [Instr.wellFormed, Bool.and_eq_true] at h
  obtain rfl | rfl := windows _ h.1 <;> obtain rfl | rfl := oddOffsets _ h.2 <;> decide

theorem swrTX2F9 : Statement (.swrTX2F9) := fun _ => by decide

theorem swrTX2FAFB (win : Win) : Statement (.swrTX2FAFB win) := by
  intro h
  obtain rfl | rfl := windows _ h <;> decide

theorem dmaRd : Statement .dmaRd := fun _ => by decide

theorem dmaWr : Statement .dmaWr := fun _ => by decide

end Sys2Proof.Laws.TableRow
end

