-- ==== Sys2Proof/Laws/Safety.lean ====
section
/-! SUPPORT. What the words of Safety.lean come to. -/

namespace Sys2Proof.Safety

open Sys2Proof.Machine

theorem inFlight_iff (s : State) :
    inFlight s = true ↔ s.slave.S ≠ .idle ∨ s.A ≠ .idle ∨ s.master.M ≠ .idle := by
  simp [inFlight, or_assoc]

/-- A state is quiescent exactly when no transaction is in flight: idle machines drive and request nothing (R312, R51). -/
theorem quiescent_iff (s : State) : quiescent s = true ↔ inFlight s = false := by
  cases hS : s.slave.S <;> cases hA : s.A <;> cases hM : s.master.M <;>
    simp [quiescent, inFlight, drivesNothing, out, outOf, mDrive, sDrive, sAck, hS, hA, hM]

/-- The condition of `F2` on each tri-state line (R281, R296) has no fight where the environment drives none. -/
theorem busFight_undriven (s : State) (ha : s.inputs.a = none) (hd : s.inputs.d = none) (has : s.inputs.asN = none)
    (hds : s.inputs.dsN = none) (hrw : s.inputs.rw = none) (hsz : s.inputs.siz = none) : busFight s = false := by
  simp [busFight, fought, ha, hd, has, hds, hrw, hsz]

end Sys2Proof.Safety
end

