-- ==== Sys2Proof/Laws/Step.lean ====
section
/-! SUPPORT. What running an operation and what a step can do, said once. -/

namespace Sys2Proof.Machine

/-- What the Slave Responder's own rule may assign in a tick: its state rules, or a cycle start. -/
def slaveMay (s : State) (v : SlaveRegs) : Prop :=
  v = slaveContinue s ∨ ∃ read mask, v = slaveBegin read mask s

/-- What the Master Engine's own rule may assign in a tick: its state rules, or a transfer start. -/
def masterMay (s : State) (m : MasterRegs) : Prop :=
  m = masterContinue s ∨ ∃ we, m = masterBegin we s

theorem slaveMay_next (s : State) : slaveMay s (slaveNext s) := by
  unfold slaveNext
  split
  · exact .inr ⟨_, _, rfl⟩
  · exact .inl rfl

theorem masterMay_next (s : State) : masterMay s (masterNext s) := by
  unfold masterNext
  split
  · exact .inr ⟨_, rfl⟩
  · exact .inl rfl

theorem slaveOperation_cases (read : Bool) (mask : LaneMask) (s : State) :
    ∃ v m, slaveOperation read mask s = .next (tickWith v m s) ∧ slaveMay s v ∧ masterMay s m := by
  refine ⟨_, _, rfl, ?_, masterMay_next s⟩
  split
  · exact .inr ⟨_, _, rfl⟩
  · exact .inl rfl

theorem dmaOperation_cases (we : Bool) (s : State) :
    ∃ v m, dmaOperation we s = .next (tickWith v m s) ∧ slaveMay s v ∧ masterMay s m := by
  refine ⟨_, _, rfl, slaveMay_next s, ?_⟩
  split
  · exact .inr ⟨_, rfl⟩
  · exact .inl rfl

/-- Every operation is a tick of the whole block. -/
theorem exec_cases (i : Instr) (s : State) :
    ∃ v m, exec i s = .next (tickWith v m s) ∧ slaveMay s v ∧ masterMay s m := by
  cases i <;> first | exact slaveOperation_cases _ _ s | exact dmaOperation_cases _ s

/-- Every step is a tick of the whole block. -/
theorem step_cases (s : State) :
    ∃ v m, step s = .next (tickWith v m s) ∧ slaveMay s v ∧ masterMay s m := by
  unfold step
  split
  · exact exec_cases _ s
  · split
    · exact exec_cases _ s
    · exact ⟨_, _, rfl, .inl rfl, .inl rfl⟩

end Sys2Proof.Machine
end

