-- ==== Sys2Proof/Tests/Slice0.lean ====
section
/-! SUPPORT. Tests, one step each, with results taken from spec/95_test_vectors.md (the vector is named) or worked by hand
from the rule named; and a witness for the hypotheses of each statement in Certificates/Slice0/Obligations.lean. -/

namespace Sys2Proof.Tests

open Sys2Proof.Machine Sys2Proof.Safety Sys2Proof.Claims

/-! ## Small states -/

/-- Reset with every group of lines at a known level, driven by the environment, and the draw of the vectors. -/
def base : State :=
  { State.reset with
    sync := { s1 := idleLines promptDraw, s2 := idleLines promptDraw, asPrev := true }
    inputs := { Inputs.idle with a := some 0#32, d := some 0#32, siz := some 0#2, late := some promptDraw }
    lastWire := idleLines promptDraw }

/-- The tick in which the Slave Responder samples a descriptor (R110). -/
def presented (a : Addr) (rw : Bool) (siz : SizeCode) : State :=
  { base with sync := { base.sync with s2 := { base.sync.s2 with a := a, rw := rw, siz := siz, asN := false } } }

/-- The tick in which the Master Engine samples a descriptor (R110), with the operands of V-MST-1 and V-MST-2. -/
def requested (we : Bool) (adr : WordAddr) (dat : Word) : State :=
  { base with
    A := .own
    inputs := { base.inputs with dmaCyc := true, dmaStb := true, dmaWe := we, dmaAdr := adr, dmaDat := dat } }

/-- The registers of a slave cycle just started, without `rdata`. -/
def begun : Host.Outcome State Fault Refusal → Option (SState × WordAddr × Bool × LaneMask)
  | .next t => some (t.slave.S, t.slave.ctxAdr, t.slave.ctxDir, t.slave.ctxMask)
  | _ => none

/-- The registers of a transfer just started, without `mrdata`. -/
def launched : Host.Outcome State Fault Refusal → Option (MState × WordAddr × Bool × Word)
  | .next t => some (t.master.M, t.master.mctxAdr, t.master.mctxWe, t.master.mctxWdata)
  | _ => none

/-! ## WellFormed: an ill-formed term for each check -/

theorem test_window_F9_refused_in_FAFB_row : (Instr.srdB0FAFB 0xF9#8).wellFormed = false := by decide
theorem test_window_FC_refused_in_FAFB_row : (Instr.swrLFAFB 0xFC#8 0#2).wellFormed = false := by decide
theorem test_even_offset_refused_in_WX_row : (Instr.srdWXF9 2#2).wellFormed = false := by decide
theorem test_even_offset_refused_in_TX1_row : (Instr.swrTX1FAFB 0xFA#8 0#2).wellFormed = false := by decide
theorem test_window_refused_in_WX_row : (Instr.srdWXFAFB 0xF8#8 1#2).wellFormed = false := by decide
theorem test_admitted_terms :
    (Instr.srdB0FAFB 0xFB#8).wellFormed = true ∧ (Instr.srdWXF9 3#2).wellFormed = true ∧
      (Instr.swrTX1FAFB 0xFA#8 1#2).wellFormed = true := by decide

/-! ## Decoding: each row's word written out from the `encoding` column of opcode_table.json -/

theorem test_decode_srdLF9 : decode (.sd13 0b1111100110010#13) = .ok (.srdLF9 0b10#2) := by decide
theorem test_decode_srdLFAFB : decode (.sd13 0b1111101010001#13) = .ok (.srdLFAFB 0xFA#8 0b01#2) := by decide
theorem test_decode_srdB0F9 : decode (.sd13 0b1111100110100#13) = .ok (.srdB0F9) := by decide
theorem test_decode_srdB0FAFB : decode (.sd13 0b1111101010100#13) = .ok (.srdB0FAFB 0xFA#8) := by decide
theorem test_decode_srdB1F9 : decode (.sd13 0b1111100110101#13) = .ok (.srdB1F9) := by decide
theorem test_decode_srdB1FAFB : decode (.sd13 0b1111101010101#13) = .ok (.srdB1FAFB 0xFA#8) := by decide
theorem test_decode_srdB2F9 : decode (.sd13 0b1111100110110#13) = .ok (.srdB2F9) := by decide
theorem test_decode_srdB2FAFB : decode (.sd13 0b1111101010110#13) = .ok (.srdB2FAFB 0xFA#8) := by decide
theorem test_decode_srdB3F9 : decode (.sd13 0b1111100110111#13) = .ok (.srdB3F9) := by decide
theorem test_decode_srdB3FAFB : decode (.sd13 0b1111101010111#13) = .ok (.srdB3FAFB 0xFA#8) := by decide
theorem test_decode_srdW0F9 : decode (.sd13 0b1111100111000#13) = .ok (.srdW0F9) := by decide
theorem test_decode_srdW0FAFB : decode (.sd13 0b1111101011000#13) = .ok (.srdW0FAFB 0xFA#8) := by decide
theorem test_decode_srdW2F9 : decode (.sd13 0b1111100111010#13) = .ok (.srdW2F9) := by decide
theorem test_decode_srdW2FAFB : decode (.sd13 0b1111101011010#13) = .ok (.srdW2FAFB 0xFA#8) := by decide
theorem test_decode_srdWXF9 : decode (.sd13 0b1111100111001#13) = .ok (.srdWXF9 0b01#2) := by decide
theorem test_decode_srdWXFAFB : decode (.sd13 0b1111101011011#13) = .ok (.srdWXFAFB 0xFA#8 0b11#2) := by decide
theorem test_decode_srdT0F9 : decode (.sd13 0b1111100111100#13) = .ok (.srdT0F9) := by decide
theorem test_decode_srdT0FAFB : decode (.sd13 0b1111101011100#13) = .ok (.srdT0FAFB 0xFA#8) := by decide
theorem test_decode_srdTX1F9 : decode (.sd13 0b1111100111111#13) = .ok (.srdTX1F9 0b11#2) := by decide
theorem test_decode_srdTX1FAFB : decode (.sd13 0b1111101011101#13) = .ok (.srdTX1FAFB 0xFA#8 0b01#2) := by decide
theorem test_decode_srdTX2F9 : decode (.sd13 0b1111100111110#13) = .ok (.srdTX2F9) := by decide
theorem test_decode_srdTX2FAFB : decode (.sd13 0b1111101011110#13) = .ok (.srdTX2FAFB 0xFA#8) := by decide
theorem test_decode_swrLF9 : decode (.sd13 0b1111100100010#13) = .ok (.swrLF9 0b10#2) := by decide
theorem test_decode_swrLFAFB : decode (.sd13 0b1111101100001#13) = .ok (.swrLFAFB 0xFB#8 0b01#2) := by decide
theorem test_decode_swrB0F9 : decode (.sd13 0b1111100100100#13) = .ok (.swrB0F9) := by decide
theorem test_decode_swrB0FAFB : decode (.sd13 0b1111101100100#13) = .ok (.swrB0FAFB 0xFB#8) := by decide
theorem test_decode_swrB1F9 : decode (.sd13 0b1111100100101#13) = .ok (.swrB1F9) := by decide
theorem test_decode_swrB1FAFB : decode (.sd13 0b1111101100101#13) = .ok (.swrB1FAFB 0xFB#8) := by decide
theorem test_decode_swrB2F9 : decode (.sd13 0b1111100100110#13) = .ok (.swrB2F9) := by decide
theorem test_decode_swrB2FAFB : decode (.sd13 0b1111101100110#13) = .ok (.swrB2FAFB 0xFB#8) := by decide
theorem test_decode_swrB3F9 : decode (.sd13 0b1111100100111#13) = .ok (.swrB3F9) := by decide
theorem test_decode_swrB3FAFB : decode (.sd13 0b1111101100111#13) = .ok (.swrB3FAFB 0xFB#8) := by decide
theorem test_decode_swrW0F9 : decode (.sd13 0b1111100101000#13) = .ok (.swrW0F9) := by decide
theorem test_decode_swrW0FAFB : decode (.sd13 0b1111101101000#13) = .ok (.swrW0FAFB 0xFB#8) := by decide
theorem test_decode_swrW2F9 : decode (.sd13 0b1111100101010#13) = .ok (.swrW2F9) := by decide
theorem test_decode_swrW2FAFB : decode (.sd13 0b1111101101010#13) = .ok (.swrW2FAFB 0xFB#8) := by decide
theorem test_decode_swrWXF9 : decode (.sd13 0b1111100101001#13) = .ok (.swrWXF9 0b01#2) := by decide
theorem test_decode_swrWXFAFB : decode (.sd13 0b1111101101011#13) = .ok (.swrWXFAFB 0xFB#8 0b11#2) := by decide
theorem test_decode_swrT0F9 : decode (.sd13 0b1111100101100#13) = .ok (.swrT0F9) := by decide
theorem test_decode_swrT0FAFB : decode (.sd13 0b1111101101100#13) = .ok (.swrT0FAFB 0xFB#8) := by decide
theorem test_decode_swrTX1F9 : decode (.sd13 0b1111100101111#13) = .ok (.swrTX1F9 0b11#2) := by decide
theorem test_decode_swrTX1FAFB : decode (.sd13 0b1111101101101#13) = .ok (.swrTX1FAFB 0xFB#8 0b01#2) := by decide
theorem test_decode_swrTX2F9 : decode (.sd13 0b1111100101110#13) = .ok (.swrTX2F9) := by decide
theorem test_decode_swrTX2FAFB : decode (.sd13 0b1111101101110#13) = .ok (.swrTX2FAFB 0xFB#8) := by decide
theorem test_decode_dmaRd : decode (.dd3 0b110#3) = .ok .dmaRd := by decide
theorem test_decode_dmaWr : decode (.dd3 0b111#3) = .ok .dmaWr := by decide

/-- R117, R118: no operation, by name. -/
theorem test_decode_rejects :
    decode (.sd13 0b1111110010100#13) = .rejected .notSelected ∧ decode (.dd3 0b101#3) = .rejected .noRequest ∧
      decodeBytes [0x34#8, 0x3F#8] = .rejected .badPadding ∧ decodeBytes [] = .rejected .badLength := by decide

/-- The same words as the opcode table numbers them. -/
theorem test_decodeTableWord :
    decodeTableWord 16 0x1F34 = some .srdB0F9 ∧ decodeTableWord 16 0x1F49 = some (.swrWXFAFB 0xFA#8 1#2) ∧
      decodeTableWord 8 0x7 = some .dmaWr ∧ decodeTableWord 8 0x5 = none := by decide

/-! ## Each slave operation at the tick that starts it: V-SLV-1 to V-SLV-28, the rows of the other window group worked by
hand from R184 (`ctx_adr` is the address shifted right by two) -/

/-- V-SLV-1. -/
theorem test_exec_srdLF9 :
    begun (exec (.srdLF9 0#2) (presented 0xF9000000#32 true 0b00#2)) =
        some (.readRequest, 0x3E400000#30, true, 0b1111#4) ∧
      begun (step (presented 0xF9000000#32 true 0b00#2)) =
        some (.readRequest, 0x3E400000#30, true, 0b1111#4) := by decide

/-- V-SLV-2. -/
theorem test_exec_srdLFAFB :
    begun (exec (.srdLFAFB 0xFB#8 3#2) (presented 0xFB00000F#32 true 0b00#2)) =
        some (.readRequest, 0x3EC00003#30, true, 0b1111#4) ∧
      begun (step (presented 0xFB00000F#32 true 0b00#2)) =
        some (.readRequest, 0x3EC00003#30, true, 0b1111#4) := by decide

/-- V-SLV-3. -/
theorem test_exec_srdB0F9 :
    begun (exec .srdB0F9 (presented 0xF9000100#32 true 0b01#2)) =
        some (.readRequest, 0x3E400040#30, true, 0b1000#4) ∧
      begun (step (presented 0xF9000100#32 true 0b01#2)) =
        some (.readRequest, 0x3E400040#30, true, 0b1000#4) := by decide

/-- by hand. -/
theorem test_exec_srdB0FAFB :
    begun (exec (.srdB0FAFB 0xFA#8) (presented 0xFA000100#32 true 0b01#2)) =
        some (.readRequest, 0x3E800040#30, true, 0b1000#4) ∧
      begun (step (presented 0xFA000100#32 true 0b01#2)) =
        some (.readRequest, 0x3E800040#30, true, 0b1000#4) := by decide

/-- by hand. -/
theorem test_exec_srdB1F9 :
    begun (exec .srdB1F9 (presented 0xF9000101#32 true 0b01#2)) =
        some (.readRequest, 0x3E400040#30, true, 0b0100#4) ∧
      begun (step (presented 0xF9000101#32 true 0b01#2)) =
        some (.readRequest, 0x3E400040#30, true, 0b0100#4) := by decide

/-- V-SLV-4. -/
theorem test_exec_srdB1FAFB :
    begun (exec (.srdB1FAFB 0xFA#8) (presented 0xFA000101#32 true 0b01#2)) =
        some (.readRequest, 0x3E800040#30, true, 0b0100#4) ∧
      begun (step (presented 0xFA000101#32 true 0b01#2)) =
        some (.readRequest, 0x3E800040#30, true, 0b0100#4) := by decide

/-- by hand. -/
theorem test_exec_srdB2F9 :
    begun (exec .srdB2F9 (presented 0xF9000102#32 true 0b01#2)) =
        some (.readRequest, 0x3E400040#30, true, 0b0010#4) ∧
      begun (step (presented 0xF9000102#32 true 0b01#2)) =
        some (.readRequest, 0x3E400040#30, true, 0b0010#4) := by decide

/-- V-SLV-5. -/
theorem test_exec_srdB2FAFB :
    begun (exec (.srdB2FAFB 0xFB#8) (presented 0xFB000102#32 true 0b01#2)) =
        some (.readRequest, 0x3EC00040#30, true, 0b0010#4) ∧
      begun (step (presented 0xFB000102#32 true 0b01#2)) =
        some (.readRequest, 0x3EC00040#30, true, 0b0010#4) := by decide

/-- V-SLV-6. -/
theorem test_exec_srdB3F9 :
    begun (exec .srdB3F9 (presented 0xF9FFFFFF#32 true 0b01#2)) =
        some (.readRequest, 0x3E7FFFFF#30, true, 0b0001#4) ∧
      begun (step (presented 0xF9FFFFFF#32 true 0b01#2)) =
        some (.readRequest, 0x3E7FFFFF#30, true, 0b0001#4) := by decide

/-- by hand. -/
theorem test_exec_srdB3FAFB :
    begun (exec (.srdB3FAFB 0xFA#8) (presented 0xFAFFFFFF#32 true 0b01#2)) =
        some (.readRequest, 0x3EBFFFFF#30, true, 0b0001#4) ∧
      begun (step (presented 0xFAFFFFFF#32 true 0b01#2)) =
        some (.readRequest, 0x3EBFFFFF#30, true, 0b0001#4) := by decide

/-- by hand. -/
theorem test_exec_srdW0F9 :
    begun (exec .srdW0F9 (presented 0xF9000200#32 true 0b10#2)) =
        some (.readRequest, 0x3E400080#30, true, 0b1100#4) ∧
      begun (step (presented 0xF9000200#32 true 0b10#2)) =
        some (.readRequest, 0x3E400080#30, true, 0b1100#4) := by decide

/-- V-SLV-7. -/
theorem test_exec_srdW0FAFB :
    begun (exec (.srdW0FAFB 0xFA#8) (presented 0xFA000200#32 true 0b10#2)) =
        some (.readRequest, 0x3E800080#30, true, 0b1100#4) ∧
      begun (step (presented 0xFA000200#32 true 0b10#2)) =
        some (.readRequest, 0x3E800080#30, true, 0b1100#4) := by decide

/-- by hand. -/
theorem test_exec_srdW2F9 :
    begun (exec .srdW2F9 (presented 0xF9000202#32 true 0b10#2)) =
        some (.readRequest, 0x3E400080#30, true, 0b0011#4) ∧
      begun (step (presented 0xF9000202#32 true 0b10#2)) =
        some (.readRequest, 0x3E400080#30, true, 0b0011#4) := by decide

/-- V-SLV-8. -/
theorem test_exec_srdW2FAFB :
    begun (exec (.srdW2FAFB 0xFA#8) (presented 0xFA000202#32 true 0b10#2)) =
        some (.readRequest, 0x3E800080#30, true, 0b0011#4) ∧
      begun (step (presented 0xFA000202#32 true 0b10#2)) =
        some (.readRequest, 0x3E800080#30, true, 0b0011#4) := by decide

/-- V-SLV-10. -/
theorem test_exec_srdWXF9 :
    begun (exec (.srdWXF9 3#2) (presented 0xF9000003#32 true 0b10#2)) =
        some (.readRequest, 0x3E400000#30, true, 0b1111#4) ∧
      begun (step (presented 0xF9000003#32 true 0b10#2)) =
        some (.readRequest, 0x3E400000#30, true, 0b1111#4) := by decide

/-- by hand. -/
theorem test_exec_srdWXFAFB :
    begun (exec (.srdWXFAFB 0xFA#8 1#2) (presented 0xFA000001#32 true 0b10#2)) =
        some (.readRequest, 0x3E800000#30, true, 0b1111#4) ∧
      begun (step (presented 0xFA000001#32 true 0b10#2)) =
        some (.readRequest, 0x3E800000#30, true, 0b1111#4) := by decide

/-- by hand. -/
theorem test_exec_srdT0F9 :
    begun (exec .srdT0F9 (presented 0xF9000300#32 true 0b11#2)) =
        some (.readRequest, 0x3E4000C0#30, true, 0b1110#4) ∧
      begun (step (presented 0xF9000300#32 true 0b11#2)) =
        some (.readRequest, 0x3E4000C0#30, true, 0b1110#4) := by decide

/-- V-SLV-11. -/
theorem test_exec_srdT0FAFB :
    begun (exec (.srdT0FAFB 0xFB#8) (presented 0xFB000300#32 true 0b11#2)) =
        some (.readRequest, 0x3EC000C0#30, true, 0b1110#4) ∧
      begun (step (presented 0xFB000300#32 true 0b11#2)) =
        some (.readRequest, 0x3EC000C0#30, true, 0b1110#4) := by decide

/-- by hand. -/
theorem test_exec_srdTX1F9 :
    begun (exec (.srdTX1F9 1#2) (presented 0xF9000301#32 true 0b11#2)) =
        some (.readRequest, 0x3E4000C0#30, true, 0b1111#4) ∧
      begun (step (presented 0xF9000301#32 true 0b11#2)) =
        some (.readRequest, 0x3E4000C0#30, true, 0b1111#4) := by decide

/-- V-SLV-13. -/
theorem test_exec_srdTX1FAFB :
    begun (exec (.srdTX1FAFB 0xFB#8 3#2) (presented 0xFB000303#32 true 0b11#2)) =
        some (.readRequest, 0x3EC000C0#30, true, 0b1111#4) ∧
      begun (step (presented 0xFB000303#32 true 0b11#2)) =
        some (.readRequest, 0x3EC000C0#30, true, 0b1111#4) := by decide

/-- V-SLV-14. -/
theorem test_exec_srdTX2F9 :
    begun (exec .srdTX2F9 (presented 0xF9000302#32 true 0b11#2)) =
        some (.readRequest, 0x3E4000C0#30, true, 0b1111#4) ∧
      begun (step (presented 0xF9000302#32 true 0b11#2)) =
        some (.readRequest, 0x3E4000C0#30, true, 0b1111#4) := by decide

/-- by hand. -/
theorem test_exec_srdTX2FAFB :
    begun (exec (.srdTX2FAFB 0xFA#8) (presented 0xFA000302#32 true 0b11#2)) =
        some (.readRequest, 0x3E8000C0#30, true, 0b1111#4) ∧
      begun (step (presented 0xFA000302#32 true 0b11#2)) =
        some (.readRequest, 0x3E8000C0#30, true, 0b1111#4) := by decide

/-- by hand. -/
theorem test_exec_swrLF9 :
    begun (exec (.swrLF9 0#2) (presented 0xF9000010#32 false 0b00#2)) =
        some (.writeWaitData, 0x3E400004#30, false, 0b1111#4) ∧
      begun (step (presented 0xF9000010#32 false 0b00#2)) =
        some (.writeWaitData, 0x3E400004#30, false, 0b1111#4) := by decide

/-- V-SLV-16. -/
theorem test_exec_swrLFAFB :
    begun (exec (.swrLFAFB 0xFA#8 2#2) (presented 0xFA000012#32 false 0b00#2)) =
        some (.writeWaitData, 0x3E800004#30, false, 0b1111#4) ∧
      begun (step (presented 0xFA000012#32 false 0b00#2)) =
        some (.writeWaitData, 0x3E800004#30, false, 0b1111#4) := by decide

/-- V-SLV-17. -/
theorem test_exec_swrB0F9 :
    begun (exec .swrB0F9 (presented 0xF9000400#32 false 0b01#2)) =
        some (.writeWaitData, 0x3E400100#30, false, 0b1000#4) ∧
      begun (step (presented 0xF9000400#32 false 0b01#2)) =
        some (.writeWaitData, 0x3E400100#30, false, 0b1000#4) := by decide

/-- by hand. -/
theorem test_exec_swrB0FAFB :
    begun (exec (.swrB0FAFB 0xFA#8) (presented 0xFA000400#32 false 0b01#2)) =
        some (.writeWaitData, 0x3E800100#30, false, 0b1000#4) ∧
      begun (step (presented 0xFA000400#32 false 0b01#2)) =
        some (.writeWaitData, 0x3E800100#30, false, 0b1000#4) := by decide

/-- V-SLV-18. -/
theorem test_exec_swrB1F9 :
    begun (exec .swrB1F9 (presented 0xF9000401#32 false 0b01#2)) =
        some (.writeWaitData, 0x3E400100#30, false, 0b0100#4) ∧
      begun (step (presented 0xF9000401#32 false 0b01#2)) =
        some (.writeWaitData, 0x3E400100#30, false, 0b0100#4) := by decide

/-- by hand. -/
theorem test_exec_swrB1FAFB :
    begun (exec (.swrB1FAFB 0xFA#8) (presented 0xFA000401#32 false 0b01#2)) =
        some (.writeWaitData, 0x3E800100#30, false, 0b0100#4) ∧
      begun (step (presented 0xFA000401#32 false 0b01#2)) =
        some (.writeWaitData, 0x3E800100#30, false, 0b0100#4) := by decide

/-- by hand. -/
theorem test_exec_swrB2F9 :
    begun (exec .swrB2F9 (presented 0xF9000402#32 false 0b01#2)) =
        some (.writeWaitData, 0x3E400100#30, false, 0b0010#4) ∧
      begun (step (presented 0xF9000402#32 false 0b01#2)) =
        some (.writeWaitData, 0x3E400100#30, false, 0b0010#4) := by decide

/-- V-SLV-19. -/
theorem test_exec_swrB2FAFB :
    begun (exec (.swrB2FAFB 0xFA#8) (presented 0xFA000402#32 false 0b01#2)) =
        some (.writeWaitData, 0x3E800100#30, false, 0b0010#4) ∧
      begun (step (presented 0xFA000402#32 false 0b01#2)) =
        some (.writeWaitData, 0x3E800100#30, false, 0b0010#4) := by decide

/-- by hand. -/
theorem test_exec_swrB3F9 :
    begun (exec .swrB3F9 (presented 0xF9000403#32 false 0b01#2)) =
        some (.writeWaitData, 0x3E400100#30, false, 0b0001#4) ∧
      begun (step (presented 0xF9000403#32 false 0b01#2)) =
        some (.writeWaitData, 0x3E400100#30, false, 0b0001#4) := by decide

/-- V-SLV-20. -/
theorem test_exec_swrB3FAFB :
    begun (exec (.swrB3FAFB 0xFB#8) (presented 0xFB000403#32 false 0b01#2)) =
        some (.writeWaitData, 0x3EC00100#30, false, 0b0001#4) ∧
      begun (step (presented 0xFB000403#32 false 0b01#2)) =
        some (.writeWaitData, 0x3EC00100#30, false, 0b0001#4) := by decide

/-- V-SLV-21. -/
theorem test_exec_swrW0F9 :
    begun (exec .swrW0F9 (presented 0xF9000500#32 false 0b10#2)) =
        some (.writeWaitData, 0x3E400140#30, false, 0b1100#4) ∧
      begun (step (presented 0xF9000500#32 false 0b10#2)) =
        some (.writeWaitData, 0x3E400140#30, false, 0b1100#4) := by decide

/-- by hand. -/
theorem test_exec_swrW0FAFB :
    begun (exec (.swrW0FAFB 0xFA#8) (presented 0xFA000500#32 false 0b10#2)) =
        some (.writeWaitData, 0x3E800140#30, false, 0b1100#4) ∧
      begun (step (presented 0xFA000500#32 false 0b10#2)) =
        some (.writeWaitData, 0x3E800140#30, false, 0b1100#4) := by decide

/-- by hand. -/
theorem test_exec_swrW2F9 :
    begun (exec .swrW2F9 (presented 0xF9000502#32 false 0b10#2)) =
        some (.writeWaitData, 0x3E400140#30, false, 0b0011#4) ∧
      begun (step (presented 0xF9000502#32 false 0b10#2)) =
        some (.writeWaitData, 0x3E400140#30, false, 0b0011#4) := by decide

/-- V-SLV-22. -/
theorem test_exec_swrW2FAFB :
    begun (exec (.swrW2FAFB 0xFB#8) (presented 0xFB000502#32 false 0b10#2)) =
        some (.writeWaitData, 0x3EC00140#30, false, 0b0011#4) ∧
      begun (step (presented 0xFB000502#32 false 0b10#2)) =
        some (.writeWaitData, 0x3EC00140#30, false, 0b0011#4) := by decide

/-- by hand. -/
theorem test_exec_swrWXF9 :
    begun (exec (.swrWXF9 1#2) (presented 0xF9000501#32 false 0b10#2)) =
        some (.writeWaitData, 0x3E400140#30, false, 0b1111#4) ∧
      begun (step (presented 0xF9000501#32 false 0b10#2)) =
        some (.writeWaitData, 0x3E400140#30, false, 0b1111#4) := by decide

/-- V-SLV-24. -/
theorem test_exec_swrWXFAFB :
    begun (exec (.swrWXFAFB 0xFA#8 3#2) (presented 0xFA000503#32 false 0b10#2)) =
        some (.writeWaitData, 0x3E800140#30, false, 0b1111#4) ∧
      begun (step (presented 0xFA000503#32 false 0b10#2)) =
        some (.writeWaitData, 0x3E800140#30, false, 0b1111#4) := by decide

/-- V-SLV-25. -/
theorem test_exec_swrT0F9 :
    begun (exec .swrT0F9 (presented 0xF9000600#32 false 0b11#2)) =
        some (.writeWaitData, 0x3E400180#30, false, 0b1110#4) ∧
      begun (step (presented 0xF9000600#32 false 0b11#2)) =
        some (.writeWaitData, 0x3E400180#30, false, 0b1110#4) := by decide

/-- by hand. -/
theorem test_exec_swrT0FAFB :
    begun (exec (.swrT0FAFB 0xFA#8) (presented 0xFA000600#32 false 0b11#2)) =
        some (.writeWaitData, 0x3E800180#30, false, 0b1110#4) ∧
      begun (step (presented 0xFA000600#32 false 0b11#2)) =
        some (.writeWaitData, 0x3E800180#30, false, 0b1110#4) := by decide

/-- V-SLV-26. -/
theorem test_exec_swrTX1F9 :
    begun (exec (.swrTX1F9 1#2) (presented 0xF9000601#32 false 0b11#2)) =
        some (.writeWaitData, 0x3E400180#30, false, 0b1111#4) ∧
      begun (step (presented 0xF9000601#32 false 0b11#2)) =
        some (.writeWaitData, 0x3E400180#30, false, 0b1111#4) := by decide

/-- V-SLV-27. -/
theorem test_exec_swrTX1FAFB :
    begun (exec (.swrTX1FAFB 0xFB#8 3#2) (presented 0xFB000603#32 false 0b11#2)) =
        some (.writeWaitData, 0x3EC00180#30, false, 0b1111#4) ∧
      begun (step (presented 0xFB000603#32 false 0b11#2)) =
        some (.writeWaitData, 0x3EC00180#30, false, 0b1111#4) := by decide

/-- by hand. -/
theorem test_exec_swrTX2F9 :
    begun (exec .swrTX2F9 (presented 0xF9000602#32 false 0b11#2)) =
        some (.writeWaitData, 0x3E400180#30, false, 0b1111#4) ∧
      begun (step (presented 0xF9000602#32 false 0b11#2)) =
        some (.writeWaitData, 0x3E400180#30, false, 0b1111#4) := by decide

/-- V-SLV-28. -/
theorem test_exec_swrTX2FAFB :
    begun (exec (.swrTX2FAFB 0xFA#8) (presented 0xFA000602#32 false 0b11#2)) =
        some (.writeWaitData, 0x3E800180#30, false, 0b1111#4) ∧
      begun (step (presented 0xFA000602#32 false 0b11#2)) =
        some (.writeWaitData, 0x3E800180#30, false, 0b1111#4) := by decide

/-- V-MST-1. -/
theorem test_exec_dmaRd :
    launched (exec .dmaRd (requested false 0x100#30 0x77777777#32)) =
        some (.driveAddress, 0x100#30, false, 0x77777777#32) ∧
      launched (step (requested false 0x100#30 0x77777777#32)) =
        some (.driveAddress, 0x100#30, false, 0x77777777#32) := by decide

/-- V-MST-2. -/
theorem test_exec_dmaWr :
    launched (exec .dmaWr (requested true 0x101#30 0x5A5A5A5A#32)) =
        some (.driveAddress, 0x101#30, true, 0x5A5A5A5A#32) ∧
      launched (step (requested true 0x101#30 0x5A5A5A5A#32)) =
        some (.driveAddress, 0x101#30, true, 0x5A5A5A5A#32) := by decide

/-- R298: a cycle start and a transfer start in one tick, both begin. -/
theorem test_both_operations_start :
    begun (step { requested true 0x101#30 9#32 with sync := (presented 0xF9000400#32 false 1#2).sync }) =
        some (.writeWaitData, 0x3E400100#30, false, 0b1000#4) ∧
      launched (step { requested true 0x101#30 9#32 with sync := (presented 0xF9000400#32 false 1#2).sync }) =
        some (.driveAddress, 0x101#30, true, 9#32) := by decide

/-! ## A descriptor placed by `withFetchWord` is the one the next step samples -/

theorem test_withFetchWord_slave :
    begun (step (State.reset.withFetchWord 16 0x1F5D)) = some (.readRequest, 0x3E800000#30, true, 0b1111#4) := by
  decide

theorem test_withFetchWord_dma :
    launched (step (State.reset.withFetchWord 8 0x7)) = some (.driveAddress, 0#30, true, 0#32) := by decide

/-! ## Single steps of each state machine, row by row -/

/-- The registers before a row of V-SLS. -/
def slsRegs (S : SState) (dir : Bool) : SlaveRegs :=
  { S := S, ctxAdr := 0x3E400040#30, ctxDir := dir, ctxMask := 0b1000#4, rdata := 0x11111111#32 }

/-- The state of a row of V-SLS. -/
def slsState (S : SState) (asPrev asN dsN rw : Bool) (a : Word) (siz : SizeCode) (i : Inputs) : State :=
  { base with
    sync := { s1 := base.sync.s1, asPrev := asPrev,
              s2 := { base.sync.s2 with a := a, siz := siz, asN := asN, dsN := dsN, rw := rw } }
    slave := slsRegs S rw
    inputs := i }

/-- The Slave Responder's registers after a step. -/
def slaveAfter (s : State) : Option SlaveRegs :=
  match step s with
  | .next t => some t.slave
  | _ => none

/-- V-SLS-1 to V-SLS-8b: idle and the read states. -/
def slsReadRows : List (State × SlaveRegs) :=
  [(slsState .idle true false false true 0xFA000101#32 0b01#2 base.inputs,
     { slsRegs .idle true with S := .readRequest, ctxAdr := 0x3E800040#30, ctxMask := 0b0100#4, ctxDir := true }),
   (slsState .idle true false true false 0xFB000202#32 0b10#2 base.inputs,
     { slsRegs .idle false with S := .writeWaitData, ctxAdr := 0x3EC00080#30, ctxMask := 0b0011#4, ctxDir := false }),
   (slsState .idle true false false true 0xFC000000#32 0b01#2 base.inputs,
     { slsRegs .idle true with S := .idle }),
   (slsState .idle false false false true 0xF9000100#32 0b01#2 base.inputs,
     { slsRegs .idle true with S := .idle }),
   (slsState .idle true true true true 0xF9000100#32 0b01#2 { base.inputs with srdAck := true },
     { slsRegs .idle true with S := .idle }),
   (slsState .readRequest false true true true 0xF9000100#32 0b01#2 { base.inputs with srdAck := true, srdDat := 0x22222222#32 },
     { slsRegs .readRequest true with S := .idle }),
   (slsState .readRequest false false false true 0xF9000100#32 0b01#2 { base.inputs with srdAck := true, srdDat := 0x22222222#32 },
     { slsRegs .readRequest true with S := .readDrive, rdata := 0x22222222#32 }),
   (slsState .readRequest false false false true 0xF9000100#32 0b01#2 { base.inputs with srdAck := false },
     { slsRegs .readRequest true with S := .readRequest }),
   (slsState .readDrive false false false true 0xF9000100#32 0b01#2 { base.inputs with srdAck := true, srdDat := 0x33333333#32 },
     { slsRegs .readDrive true with S := .readDrive }),
   (slsState .readDrive false true true true 0xF9000100#32 0b01#2 base.inputs,
     { slsRegs .readDrive true with S := .idle })]

/-- V-SLS-9 to V-SLS-17: the write states and reset. -/
def slsWriteRows : List (State × SlaveRegs) :=
  [(slsState .writeWaitData false true false false 0xF9000100#32 0b01#2 base.inputs,
     { slsRegs .writeWaitData false with S := .idle }),
   (slsState .writeWaitData false false false false 0xF9000100#32 0b01#2 base.inputs,
     { slsRegs .writeWaitData false with S := .writeRequest }),
   (slsState .writeWaitData false false true false 0xF9000100#32 0b01#2 base.inputs,
     { slsRegs .writeWaitData false with S := .writeWaitData }),
   (slsState .writeRequest false true true false 0xF9000100#32 0b01#2 { base.inputs with swrAck := true },
     { slsRegs .writeRequest false with S := .idle }),
   (slsState .writeRequest false false false false 0xF9000100#32 0b01#2 { base.inputs with swrAck := true },
     { slsRegs .writeRequest false with S := .writeAck }),
   (slsState .writeRequest false false false false 0xF9000100#32 0b01#2 { base.inputs with swrAck := false },
     { slsRegs .writeRequest false with S := .writeRequest }),
   (slsState .writeRequest false false true false 0xF9000100#32 0b01#2 { base.inputs with swrAck := false },
     { slsRegs .writeRequest false with S := .writeRequest }),
   (slsState .writeAck false false false false 0xF9000100#32 0b01#2 base.inputs,
     { slsRegs .writeAck false with S := .writeAck }),
   (slsState .writeAck false true true false 0xF9000100#32 0b01#2 base.inputs,
     { slsRegs .writeAck false with S := .idle }),
   (slsState .readDrive false false false true 0xF9000100#32 0b01#2 { base.inputs with rst := true },
     { slsRegs .readDrive true with S := .idle }),
   (slsState .writeRequest false false false false 0xF9000100#32 0b01#2 { base.inputs with swrAck := true, rst := true },
     { slsRegs .writeRequest false with S := .idle })]

theorem test_slave_read_rows : slsReadRows.all (fun r => slaveAfter r.1 == some r.2) = true := by decide
theorem test_slave_write_rows : slsWriteRows.all (fun r => slaveAfter r.1 == some r.2) = true := by decide

/-- The state of a row of V-ARB. -/
def arbState (A : AState) (req bgN asN : Bool) (dsackN : BitVec 2) (bgackN : Bool) (M : MState) (rst : Bool) : State :=
  { base with
    sync := { base.sync with s2 := { base.sync.s2 with bgN := bgN, asN := asN, dsackN := dsackN, bgackN := bgackN } }
    A := A
    master := { base.master with M := M }
    inputs := { base.inputs with dmaCyc := req, dmaStb := req, dmaWe := false, rst := rst } }

/-- V-ARB-1 to V-ARB-23. -/
def arbRows : List (State × AState) :=
  [(arbState .idle false true true 0b11#2 true .idle false, .idle),
   (arbState .idle true true true 0b11#2 true .idle false, .request),
   (arbState .idle true false true 0b11#2 true .idle false, .request),
   (arbState .request false false true 0b11#2 true .idle false, .idle),
   (arbState .request true true true 0b11#2 true .idle false, .request),
   (arbState .request true false true 0b11#2 true .idle false, .waitFree),
   (arbState .request true false false 0b00#2 false .idle false, .waitFree),
   (arbState .waitFree false false true 0b11#2 true .idle false, .idle),
   (arbState .waitFree true false false 0b11#2 true .idle false, .waitFree),
   (arbState .waitFree true false true 0b01#2 true .idle false, .waitFree),
   (arbState .waitFree true false true 0b10#2 true .idle false, .waitFree),
   (arbState .waitFree true false true 0b11#2 false .idle false, .waitFree),
   (arbState .waitFree true false true 0b11#2 true .idle false, .own),
   (arbState .waitFree true true true 0b11#2 true .idle false, .own),
   (arbState .own true false true 0b11#2 true .idle false, .own),
   (arbState .own true true false 0b00#2 false .waitAck false, .own),
   (arbState .own false false true 0b11#2 true .idle false, .idle),
   (arbState .own false false true 0b00#2 false .complete false, .idle),
   (arbState .own false false true 0b11#2 false .driveAddress false, .own),
   (arbState .own false false false 0b11#2 false .assertStrobes false, .own),
   (arbState .own false false false 0b11#2 false .waitAck false, .own),
   (arbState .own true false true 0b11#2 false .waitAck true, .idle),
   (arbState .waitFree true false true 0b11#2 true .idle true, .idle)]

theorem test_arbiter_rows :
    arbRows.all (fun r => match step r.1 with | .next t => t.A == r.2 | _ => false) = true := by decide

/-- The registers before a row of V-MST. -/
def mstRegs (M : MState) (we : Bool) : MasterRegs :=
  { M := M, mctxAdr := 0x400#30, mctxWe := we, mctxWdata := 0xA5A55A5A#32, mrdata := 0xEEEE#32 }

/-- The state of a row of V-MST. -/
def mstState (M : MState) (A : AState) (req dmaWe : Bool) (adr : WordAddr) (dat : Word) (we : Bool)
    (dsackN : BitVec 2) (rst : Bool) : State :=
  { base with
    sync := { base.sync with s2 := { base.sync.s2 with d := 0x12345678#32, dsackN := dsackN } }
    A := A
    master := mstRegs M we
    inputs := { base.inputs with dmaCyc := req, dmaStb := req, dmaWe := dmaWe, dmaAdr := adr, dmaDat := dat,
                                 rst := rst } }

/-- V-MST-1 to V-MST-15. -/
def mstRows : List (State × MasterRegs) :=
  [(mstState .idle .own true false 0x00000100#30 0x77777777#32 true 0b11#2 false,
     { mstRegs .idle true with M := .driveAddress, mctxAdr := 0x00000100#30, mctxWe := false, mctxWdata := 0x77777777#32 }),
   (mstState .idle .own true true 0x00000101#30 0x5A5A5A5A#32 false 0b11#2 false,
     { mstRegs .idle false with M := .driveAddress, mctxAdr := 0x00000101#30, mctxWe := true, mctxWdata := 0x5A5A5A5A#32 }),
   (mstState .idle .waitFree true false 0x00000100#30 0x77777777#32 false 0b11#2 false,
     { mstRegs .idle false with M := .idle }),
   (mstState .idle .request true false 0x00000100#30 0x77777777#32 false 0b11#2 false,
     { mstRegs .idle false with M := .idle }),
   (mstState .idle .own false false 0x00000100#30 0x77777777#32 false 0b11#2 false,
     { mstRegs .idle false with M := .idle }),
   (mstState .driveAddress .own false false 0#30 0#32 false 0b00#2 false,
     { mstRegs .driveAddress false with M := .assertStrobes }),
   (mstState .assertStrobes .own true false 0#30 0#32 false 0b00#2 false,
     { mstRegs .assertStrobes false with M := .waitAck }),
   (mstState .waitAck .own true false 0#30 0#32 false 0b11#2 false,
     { mstRegs .waitAck false with M := .waitAck }),
   (mstState .waitAck .own true false 0#30 0#32 false 0b00#2 false,
     { mstRegs .waitAck false with M := .complete, mrdata := 0x12345678#32 }),
   (mstState .waitAck .own true false 0#30 0#32 false 0b10#2 false,
     { mstRegs .waitAck false with M := .complete, mrdata := 0x12345678#32 }),
   (mstState .waitAck .own true false 0#30 0#32 false 0b01#2 false,
     { mstRegs .waitAck false with M := .complete, mrdata := 0x12345678#32 }),
   (mstState .waitAck .own true false 0#30 0#32 true 0b00#2 false,
     { mstRegs .waitAck true with M := .complete }),
   (mstState .waitAck .own false false 0#30 0#32 false 0b11#2 false,
     { mstRegs .waitAck false with M := .waitAck }),
   (mstState .complete .own true false 0#30 0#32 false 0b00#2 false,
     { mstRegs .complete false with M := .idle }),
   (mstState .waitAck .own true false 0#30 0#32 false 0b00#2 true,
     { mstRegs .waitAck false with M := .idle, mrdata := 0x12345678#32 })]

theorem test_master_rows :
    mstRows.all (fun r => match step r.1 with | .next t => t.master == r.2 | _ => false) = true := by decide

/-- The state of a row of V-MUX. -/
def muxState (S : SState) (A : AState) (M : MState) (we : Bool) : State :=
  { base with
    slave := { base.slave with S := S, rdata := 0x0BADF00D#32 }
    A := A
    master := { base.master with M := M, mctxAdr := 0x3E400010#30, mctxWe := we, mctxWdata := 0xFEEDFACE#32 } }

/-- V-MUX-1 to V-MUX-11: the enables of address, control, data, acknowledge, request and bus in use, contention, and the data
where it is driven. -/
def muxRows : List (State × List Bool × Option Word) :=
  [(muxState .idle .idle .idle false,
     [false, false, false, false, false, false, false], none),
   (muxState .readDrive .idle .idle false,
     [false, false, true, true, false, false, false], some 0x0BADF00D#32),
   (muxState .writeAck .idle .idle false,
     [false, false, false, true, false, false, false], none),
   (muxState .readRequest .idle .idle false,
     [false, false, false, false, false, false, false], none),
   (muxState .idle .own .waitAck true,
     [true, true, true, false, true, true, false], some 0xFEEDFACE#32),
   (muxState .readDrive .own .waitAck true,
     [true, true, true, true, true, true, true], some 0xFEEDFACE#32),
   (muxState .readDrive .own .waitAck false,
     [true, true, true, true, true, true, false], some 0x0BADF00D#32),
   (muxState .writeAck .own .waitAck true,
     [true, true, true, true, true, true, false], some 0xFEEDFACE#32),
   (muxState .idle .own .complete false,
     [true, true, false, false, true, true, false], none),
   (muxState .idle .request .idle false,
     [false, false, false, false, true, false, false], none),
   (muxState .readDrive .own .driveAddress true,
     [true, true, true, true, true, true, true], some 0xFEEDFACE#32)]

theorem test_mux_rows :
    muxRows.all (fun r =>
      let o := out r.1
      [o.aOe, o.ctlOe, o.dOe, o.dsackOe, o.brOe, o.bgackOe, contention r.1] == r.2.1 &&
        (match r.2.2 with | some d => o.dO == d | none => true)) = true := by decide

/-! ## Sampling, wires, reset -/

/-- V-SYNC-1 and V-SYNC-1b: a falling strobe is sampled at its new level under one draw and at its old level under the other. -/
theorem test_sample_both_draws :
    sampleBit false true false = false ∧ sampleBit true true false = true ∧ sampleBit true false false = false := by
  decide

/-- V-WIRE-1 to V-WIRE-4, V-WIRE-9, V-WIRE-11. -/
theorem test_wires :
    resolveAck true 0b00#2 0b11#2 = 0b00#2 ∧ resolveAck false 0b00#2 0b01#2 = 0b01#2 ∧
      resolveAck true 0b00#2 0b10#2 = 0b00#2 ∧ resolveAck false 0b00#2 0b11#2 = 0b11#2 ∧
      resolveTri true false none true true = false ∧ resolveTri false false none true false = true := by decide

/-- R121: `ext_write` changes the data strobe two ticks after the address. -/
theorem test_script_ext_write :
    ((Script.mk [.extWrite 0xF9000020#32 0b01#2 0x5A#32 0] []).compile none).map (fun i => (i.asN, i.dsN)) =
      [(none, none), (some false, none), (some false, some false)] := by decide

/-- R312: the last tick a script names, in an expansion's `@` line or in an `expect` line, is its observation point. -/
theorem test_script_last_tick :
    (Script.mk [.extWrite 0xF9000020#32 0b01#2 0x5A#32 0] []).lastTick = 2 ∧
      (Script.mk [.extWrite 0xF9000020#32 0b01#2 0x5A#32 0] [⟨9, [.S .idle]⟩, ⟨5, []⟩]).lastTick = 9 := by decide

/-- R120, R312: each `expect` is checked at its own tick; a request of tick 0 is in the arbiter in tick 1, and the run that ends
there is not quiescent. -/
theorem test_script_expect :
    (Script.mk [.dmaRead 0x400#30 0] [⟨0, [.A .idle, .bit .req true, .bit .mDrive false]⟩, ⟨1, [.A .request, .bit .brOe true]⟩]).holds
        (some promptDraw) = true ∧
      (Script.mk [.dmaRead 0x400#30 0] [⟨1, [.A .idle]⟩]).holds (some promptDraw) = false ∧
      endsQuiescent (Script.mk [.dmaRead 0x400#30 0] [⟨1, []⟩]) (some promptDraw) = false := by decide

/-- R120; log 27: of two lines that set one input at one tick the last holds. -/
theorem test_script_same_tick :
    ((Script.mk [.srdReply 1#32 4, .srdReply 2#32 5] []).compile none).map (·.srdAck) =
      [false, false, false, false, true, true, false] ∧
    ((Script.mk [.srdReply 2#32 5, .srdReply 1#32 4] []).compile none).map (·.srdAck) =
      [false, false, false, false, true, false, false] := by decide

/-- R88, R304(b): a narrow write keeps the other lanes. -/
theorem test_mergeLanes : mergeLanes 0b1000#4 0x11223344#32 0xAABBCCDD#32 = 0xAA223344#32 := by decide

/-! ## Witnesses: states and operands that meet the hypotheses of the statements -/

theorem witness_DecodeEncodeRoundTrip :
    Instr.wellFormed .srdB0F9 = true ∧ Instr.wellFormed (.swrTX1FAFB 0xFB#8 3#2) = true ∧
      Instr.wellFormed .dmaWr = true := by decide

theorem witness_EncodeDecodeRoundTrip :
    decode (.sd13 0x1F30#13) = .ok (.srdLF9 0#2) ∧ decode (.dd3 7#3) = .ok .dmaWr := by decide

/-- The windows' neighbours and ends (V-DEC-2, V-DEC-3, V-DEC-6, V-DEC-7). -/
theorem witness_RowsCoverSelectedDescriptorsOnce :
    sd13Win 0x1F20#13 ∈ Config.slotIds ∧ sd13Win 0x1F7F#13 ∈ Config.slotIds ∧
      sd13Win 0x1F1F#13 ∉ Config.slotIds ∧ sd13Win 0x1F80#13 ∉ Config.slotIds := by decide

theorem witness_DmaDescriptorMap :
    (0b011#3).getLsbD 2 = false ∧ (0b101#3).getLsbD 1 = false := by decide

theorem witness_StepRunsSampledSlaveOperation :
    (presented 0xFA000101#32 true 1#2).slave.S = .idle ∧ fall (presented 0xFA000101#32 true 1#2) = true ∧
      decodeSD13 (presented 0xFA000101#32 true 1#2).sd13 = .ok (.srdB1FAFB 0xFA#8) := by decide

theorem witness_StepRunsSampledDmaOperation :
    (requested true 1#30 2#32).master.M = .idle ∧ (requested true 1#30 2#32).A = .own ∧
      decodeDD3 (requested true 1#30 2#32).dd3 = .ok .dmaWr := by decide

theorem witness_UnselectedCycleIgnored :
    (presented 0xFC000000#32 true 0#2).slave.S = .idle ∧
      winOf (presented 0xFC000000#32 true 0#2).sync.s2.a ∉ Config.slotIds := by decide

/-- For the four statements on slave operations at their start. -/
theorem witness_SlaveOperationsStart :
    start (presented 0xF9000000#32 true 0#2) = true ∧ (presented 0xF9000000#32 true 0#2).inputs.rst = false ∧
      start (presented 0xFBFFFFFF#32 false 3#2) = true := by decide

theorem witness_DmaOperationsStart :
    masterStarts (requested false 0#30 0#32) = true ∧ (requested false 0#30 0#32).inputs.rst = false := by decide

theorem witness_EveryOperationAnswersNext : isSlave (.swrLF9 0#2) = true ∧ isSlave .dmaRd = false := by decide

theorem witness_UnsampledOperationFollowsStateRules : start base = false ∧ masterStarts base = false := by decide

theorem witness_SlaveIdleTransition :
    base.slave.S = .idle ∧ base.inputs.rst = false ∧ (presented 0xF9000000#32 false 0#2).slave.S = .idle := by decide

/-- Every step answers, so a hypothesis `step s = next t` is met by some `t` in every state. -/
theorem step_answers (s : State) : ∃ t, step s = .next t :=
  let ⟨_, _, h, _⟩ := step_cases s
  ⟨_, h⟩

theorem witness_SlaveContextWrittenOnlyAtStart :
    (∃ t, step (presented 0xF9000000#32 true 0#2) = .next t) ∧ start (presented 0xF9000000#32 true 0#2) = true ∧
      (∃ t, step base = .next t) ∧ start base = false :=
  ⟨step_answers _, by decide, step_answers _, by decide⟩

/-- A state of the Slave Responder under a given strobe and both acknowledges. -/
def inState (S : SState) (asN dsN ack : Bool) : State :=
  slsState S asN asN dsN true 0xF9000100#32 1#2 { base.inputs with srdAck := ack, swrAck := ack, srdDat := 5#32 }

theorem witness_ReadRequestTransition :
    (inState .readRequest false true true).slave.S = .readRequest ∧
      (inState .readRequest false true true).inputs.rst = false := by decide

theorem witness_ReadDataWrittenOnlyOnAcknowledge :
    ∃ t, step (inState .readRequest false true true) = .next t := step_answers _

theorem witness_SlaveWaitTransitions :
    (inState .readDrive true true false).inputs.rst = false ∧
      (inState .readDrive true true false).slave.S = .readDrive ∧
      (inState .writeWaitData false false false).slave.S = .writeWaitData ∧
      (inState .writeRequest false false true).slave.S = .writeRequest ∧
      (inState .writeAck false false true).slave.S = .writeAck := by decide

/-- Both ways to an acknowledge: a read answered and a write accepted. -/
theorem witness_AcknowledgeOnlyAfterInternalTransfer :
    (∃ t, step (inState .readRequest false true true) = .next t ∧ (out t).dsackOe = true) ∧
      (out (inState .readRequest false true true)).dsackOe = false ∧
      (∃ t, step (inState .writeRequest false true true) = .next t ∧ (out t).dsackOe = true) ∧
      (out (inState .writeRequest false true true)).dsackOe = false :=
  ⟨⟨_, rfl, by decide⟩, by decide, ⟨_, rfl, by decide⟩, by decide⟩

theorem witness_StepKeepsContextSound :
    contextSound (inState .readRequest false true true) ∧ ∃ t, step (inState .readRequest false true true) = .next t :=
  ⟨fun _ => by decide, step_answers _⟩

theorem witness_ArbiterTransitionTable :
    (arbState .idle true true true 3#2 true .idle false).inputs.rst = false ∧
      (arbState .waitFree true true true 3#2 true .idle false).A = .waitFree ∧
      (arbState .own false true true 3#2 true .complete false).A = .own := by decide

theorem witness_GrantReadOnlyInRequest : (arbState .waitFree true false true 3#2 true .idle false).A ≠ .request := by
  decide

theorem witness_OwnershipNeedsGrantAndIdleBus :
    (∃ t, step (arbState .waitFree true true true 3#2 true .idle false) = .next t ∧ t.A = .own) ∧
      (∃ t, step (arbState .request true false true 3#2 true .idle false) = .next t ∧ t.A = .waitFree) :=
  ⟨⟨_, rfl, by decide⟩, ⟨_, rfl, by decide⟩⟩

theorem witness_CancelledArbitration :
    (arbState .request false false true 3#2 true .idle false).A = .request ∧
      req (arbState .request false false true 3#2 true .idle false) = false ∧
      (arbState .request false false true 3#2 true .idle false).master.M = .idle ∧
      (arbState .waitFree false false true 3#2 true .idle false).A = .waitFree := by decide

theorem witness_MasterTransitionTable :
    (mstState .idle .own true false 1#30 2#32 true 3#2 false).inputs.rst = false ∧
      (mstState .waitAck .own true false 1#30 2#32 false 1#2 false).master.M = .waitAck := by decide

theorem witness_MasterContextWrittenOnlyAtStart :
    (∃ t, step (mstState .idle .own true false 1#30 2#32 true 3#2 false) = .next t) ∧
      req (mstState .idle .own true false 1#30 2#32 true 3#2 false) = true ∧
      req (mstState .idle .own false false 1#30 2#32 true 3#2 false) = false :=
  ⟨step_answers _, by decide, by decide⟩

theorem witness_DmaReadDataCapture :
    ∃ t, step (mstState .waitAck .own true false 1#30 2#32 false 1#2 false) = .next t := step_answers _

theorem witness_MasterOutputs :
    (mstState .complete .own true false 1#30 2#32 true 3#2 false).master.M ≠ .idle ∧
      (mstState .complete .own true false 1#30 2#32 true 3#2 false).master.mctxWe = true := by decide

theorem witness_TransferNotCancellable :
    (mstState .driveAddress .own true false 1#30 2#32 true 3#2 false).master.M ≠ .idle ∧
      (mstState .driveAddress .own true false 1#30 2#32 true 3#2 false).A = .own ∧
      (mstState .driveAddress .own true false 1#30 2#32 true 3#2 false).master.M ≠ .complete := by decide

theorem witness_MasterDrivesOnlyWhileOwning :
    masterOwnsBus (mstState .waitAck .own true false 1#30 2#32 true 3#2 true) ∧
      (out (mstState .waitAck .own true false 1#30 2#32 true 3#2 true)).aOe = true ∧
      (mstState .waitAck .own true false 1#30 2#32 true 3#2 true).inputs.rst = true ∧
      ∃ t, step (mstState .waitAck .own true false 1#30 2#32 true 3#2 true) = .next t :=
  ⟨fun _ => by decide, by decide, by decide, step_answers _⟩

theorem witness_SynchronizerStages : base.inputs.late = some promptDraw := by decide

theorem witness_SampleIsOldOrNewLevel : ∃ t, step base = .next t := step_answers _

/-- Address bits 0 and 1 and the strobe change in the tick. -/
def changing : State :=
  { base with
    inputs := { base.inputs with a := some 0b01#32, asN := some false }
    lastWire := { base.lastWire with a := 0b10#32, asN := true } }

/-- A sample of `changing` that takes address bit 0 new, address bit 1 old and the strobe old. -/
def mixedSample : Lines := { wires changing with a := 0b11#32, asN := true }

/-- The hypotheses of `EverySampleIsAdmitted`, and that the sample is neither the old nor the new wire. -/
theorem witness_EverySampleIsAdmitted :
    (oldOrNew mixedSample.a changing.lastWire.a (wires changing).a ∧
      oldOrNew mixedSample.d changing.lastWire.d (wires changing).d ∧
      oldOrNew mixedSample.siz changing.lastWire.siz (wires changing).siz ∧
      oldOrNew mixedSample.dsackN changing.lastWire.dsackN (wires changing).dsackN ∧
      (mixedSample.asN = changing.lastWire.asN ∨ mixedSample.asN = (wires changing).asN) ∧
      (mixedSample.dsN = changing.lastWire.dsN ∨ mixedSample.dsN = (wires changing).dsN) ∧
      (mixedSample.rw = changing.lastWire.rw ∨ mixedSample.rw = (wires changing).rw) ∧
      (mixedSample.bgN = changing.lastWire.bgN ∨ mixedSample.bgN = (wires changing).bgN) ∧
      (mixedSample.bgackN = changing.lastWire.bgackN ∨ mixedSample.bgackN = (wires changing).bgackN)) ∧
      mixedSample.a ≠ changing.lastWire.a ∧ mixedSample.a ≠ (wires changing).a := by
  refine ⟨⟨fun k => ?_, fun k => .inr rfl, fun k => .inr rfl, fun k => .inr rfl, .inl rfl, .inr rfl, .inr rfl, .inr rfl,
    .inr rfl⟩, by decide, by decide⟩
  rcases k with _ | _ | k
  · right; decide
  · left; decide
  · left
    change (0b11#32).getLsbD (k + 2) = (0b10#32).getLsbD (k + 2)
    simp [BitVec.getLsbD_ofNat, Nat.testBit_succ]

theorem witness_WireSeenTwoTicksLater :
    base.inputs.late = some promptDraw ∧ ∃ t u v, step base = .next t ∧ step t = .next u ∧ step u = .next v := by
  obtain ⟨t, ht⟩ := step_answers base
  obtain ⟨u, hu⟩ := step_answers t
  obtain ⟨v, hv⟩ := step_answers u
  exact ⟨by decide, t, u, v, ht, hu, hv⟩

/-- Two states that differ in a raw line and in stage 1 only. -/
theorem witness_RawLinesIsolated :
    sameView base { base with inputs := { base.inputs with asN := some false },
                              sync := { base.sync with s1 := idleLines Config.resetStage1 } } :=
  ⟨rfl, rfl, rfl, rfl, rfl, rfl, rfl, rfl, rfl, rfl, rfl, rfl, rfl, rfl⟩

theorem witness_FallLastsOneTick :
    (∃ t, step (presented 0#32 true 0#2) = .next t) ∧ fall (presented 0#32 true 0#2) = true :=
  ⟨step_answers _, by decide⟩

theorem witness_OutputsReadNoInput :
    base.slave = { base with inputs := State.reset.inputs }.slave ∧ base.inputs ≠ { base.inputs with rst := true } := by
  refine ⟨rfl, fun h => ?_⟩
  have := congrArg Inputs.rst h
  revert this
  decide

theorem witness_DataDriverSelection :
    ((muxState .readDrive .own .waitAck true).master.M ≠ .idle ∧
        (muxState .readDrive .own .waitAck true).master.mctxWe = true) ∧
      ¬ ((muxState .readDrive .own .waitAck false).master.M ≠ .idle ∧
        (muxState .readDrive .own .waitAck false).master.mctxWe = true) ∧
      (muxState .readDrive .own .waitAck false).slave.S = .readDrive := by decide

theorem witness_IdleDrivesNothing : base.slave.S = .idle ∧ base.A = .idle ∧ base.master.M = .idle := by decide

/-- A line the block drives alone, one the environment drives alone, and one nobody drives. -/
theorem witness_WireResolution :
    (out (muxState .readDrive .own .waitAck true)).ctlOe = true ∧
      (muxState .readDrive .own .waitAck true).inputs.asN = none ∧
      (out base).aOe = false ∧ base.inputs.a = some 0#32 ∧ (out base).ctlOe = false ∧ base.inputs.asN = none := by
  decide

theorem witness_ContentionNeedsOwnedWrite :
    contention (muxState .readDrive .own .waitAck true) = true ∧
      masterOwnsBus (muxState .readDrive .own .waitAck true) := ⟨by decide, fun _ => by decide⟩

/-! ### Runs -/

/-- The run from a state, tick by tick. -/
def runFrom (s : State) : Nat → State
  | 0 => s
  | k + 1 => match step (runFrom s k) with
    | .next t => t
    | _ => runFrom s k

theorem runFrom_isTrace (s : State) : isTrace (runFrom s) := by
  intro k
  obtain ⟨t, h⟩ := step_answers (runFrom s k)
  simp [runFrom, h]

/-- The hypotheses of `AbortReturnsToIdle` with `n` = 2: a write request withdrawn in tick 0. -/
theorem witness_AbortReturnsToIdle :
    isTrace (runFrom (inState .writeRequest true true true)) ∧
      (runFrom (inState .writeRequest true true true) 0).slave.S ≠ .idle ∧
      (runFrom (inState .writeRequest true true true) 0).sync.s2.asN = true ∧
      ∀ k, 1 ≤ k → k < 2 → start (runFrom (inState .writeRequest true true true) k) = false := by
  refine ⟨runFrom_isTrace _, by decide, by decide, ?_⟩
  intro k h1 h2
  interval_cases k
  decide

theorem witness_ThreeResetTicksFlush :
    ∃ s t u v : State, s.inputs.rst = true ∧ t.inputs.rst = true ∧ u.inputs.rst = true ∧
      step s = .next t ∧ step t = .next u ∧ step u = .next v := by
  let tr := runFrom { base with inputs := { base.inputs with rst := true } }
  have h := runFrom_isTrace { base with inputs := { base.inputs with rst := true } }
  exact ⟨tr 0, tr 1, tr 2, tr 3, by decide, by decide, by decide, h 0, h 1, h 2⟩

/-- A read cycle at its start: the strobe is asserted in stage 1 and stage 2 and negated on the wire, and the internal slave
acknowledges from tick 2 on. -/
def readCase : State :=
  { base with
    sync := { s1 := { base.sync.s1 with asN := false },
              s2 := { base.sync.s2 with a := 0xF9000101#32, siz := 1#2, asN := false }, asPrev := true }
    inputs := { base.inputs with asN := some false, srdAck := false }
    script := [{ base.inputs with asN := some true }, { base.inputs with asN := some true, srdAck := true, srdDat := 7#32 }] }

/-- The hypotheses of `SlaveReadSequence` with `n` = 1 and `m` = 0. -/
theorem witness_SlaveReadSequence :
    isTrace (runFrom readCase) ∧ start (runFrom readCase 0) = true ∧ (runFrom readCase 0).sync.s2.rw = true ∧
      (∀ k, k ≤ 3 → (runFrom readCase k).inputs.rst = false) ∧
      (∀ k, 1 ≤ k → k ≤ 2 → withdrawn (runFrom readCase k) = false) ∧
      (∀ k, 1 ≤ k → k ≤ 1 → (runFrom readCase k).inputs.srdAck = false) ∧
      (runFrom readCase 2).inputs.srdAck = true ∧ withdrawn (runFrom readCase 3) = true := by
  refine ⟨runFrom_isTrace _, by decide, by decide, ?_, ?_, ?_, by decide, by decide⟩
  · intro k hk; interval_cases k <;> decide
  · intro k h1 hk; interval_cases k <;> decide
  · intro k h1 hk; interval_cases k; decide

/-- A write cycle at its start, the data strobe two ticks behind the address strobe on the wire, the internal slave acknowledging
at once. -/
def writeCase : State :=
  { base with
    sync := { s1 := { base.sync.s1 with asN := false },
              s2 := { base.sync.s2 with a := 0xFB000202#32, siz := 2#2, rw := false, asN := false }, asPrev := true }
    inputs := { base.inputs with asN := some false, dsN := some false, swrAck := true }
    script := [{ base.inputs with asN := some false, swrAck := true },
      { base.inputs with asN := some true, swrAck := true }] }

/-- The hypotheses of `SlaveWriteSequence` with `p` = 1, `n` = 0 and `m` = 0: the data strobe is seen in tick 2, the write is
acknowledged in tick 3, and the withdrawal is seen in tick 4. -/
theorem witness_SlaveWriteSequence :
    isTrace (runFrom writeCase) ∧ start (runFrom writeCase 0) = true ∧ (runFrom writeCase 0).sync.s2.rw = false ∧
      (∀ k, k ≤ 4 → (runFrom writeCase k).inputs.rst = false) ∧
      (∀ k, 1 ≤ k → k ≤ 3 → withdrawn (runFrom writeCase k) = false) ∧
      (∀ k, 1 ≤ k → k ≤ 1 → (runFrom writeCase k).sync.s2.dsN = true) ∧ (runFrom writeCase 2).sync.s2.dsN = false ∧
      (∀ k, 3 ≤ k → k ≤ 2 → (runFrom writeCase k).inputs.swrAck = false) ∧
      (runFrom writeCase 3).inputs.swrAck = true ∧ withdrawn (runFrom writeCase 4) = true := by
  refine ⟨runFrom_isTrace _, by decide, by decide, ?_, ?_, ?_, by decide, ?_, by decide, by decide⟩
  · intro k hk; interval_cases k <;> decide
  · intro k h1 hk; interval_cases k <;> decide
  · intro k h1 hk; interval_cases k; decide
  · intro k h1 hk; omega

/-- Two reads one after the other, the second strobe already in stage 1 when the first cycle aborts. -/
def twoReads : State :=
  { base with
    sync := { s1 := { base.sync.s1 with a := 0xF9000000#32, asN := true },
              s2 := { base.sync.s2 with a := 0xF9000000#32, asN := false }, asPrev := false }
    slave := slsRegs .readRequest true
    inputs := { base.inputs with a := some 0xF9000000#32, asN := some false, srdAck := true } }

/-- The hypotheses of `OneInternalTransferPerCycle`: transfers in ticks 0 and 3. -/
theorem witness_OneInternalTransferPerCycle :
    isTrace (runFrom twoReads) ∧ 0 < 3 ∧ performedRead (runFrom twoReads 0) ≠ none ∧
      performedRead (runFrom twoReads 3) ≠ none :=
  ⟨runFrom_isTrace _, by decide, by decide, by decide⟩

/-- A transfer at its start; the acknowledge is on the wire from tick 2 on. -/
def dmaCase : State :=
  { requested false 0x400#30 0#32 with
    inputs := { (requested false 0x400#30 0#32).inputs with a := none, siz := none, d := some 0x12345678#32 }
    script := [{ (requested false 0x400#30 0#32).inputs with a := none, siz := none },
      { (requested false 0x400#30 0#32).inputs with a := none, siz := none, dsackN := 0b00#2 }] }

/-- The hypotheses of `DmaTransferSequence` with `n` = 1. -/
theorem witness_DmaTransferSequence :
    isTrace (runFrom dmaCase) ∧ masterStarts (runFrom dmaCase 0) = true ∧
      (∀ k, k ≤ 5 → (runFrom dmaCase k).inputs.rst = false) ∧
      (∀ k, 3 ≤ k → k ≤ 3 → (runFrom dmaCase k).sync.s2.dsackN = 0b11#2) ∧
      (runFrom dmaCase 4).sync.s2.dsackN ≠ 0b11#2 := by
  refine ⟨runFrom_isTrace _, by decide, ?_, ?_, by decide⟩
  · intro k hk; interval_cases k <;> decide
  · intro k h1 hk; interval_cases k; decide

/-- A DMA write waiting for an acknowledge that nobody gives. -/
def waiting : State := mstState .waitAck .own true true 1#30 2#32 false 3#2 false

/-- Nobody acknowledges anything: not the environment, not the internal slaves, not the Slave Responder. -/
def unanswered (s : State) : Prop :=
  s.inputs = waiting.inputs ∧ s.script = [] ∧ s.slave.S ≠ .readDrive ∧ s.slave.S ≠ .writeAck ∧
    s.lastWire.dsackN = 0b11#2 ∧ s.sync.s1.dsackN = 0b11#2 ∧ s.sync.s2.dsackN = 0b11#2

theorem unanswered_step (s t : State) (hs : unanswered s) (h : step s = .next t) : unanswered t := by
  obtain ⟨hi, hc, h1, h2, hw, hs1, -⟩ := hs
  obtain ⟨v, m, he, hv, -⟩ := step_cases s
  rw [he] at h
  injection h with h
  subst h
  have hr : s.inputs.rst = false := by rw [hi]; decide
  have ha : s.inputs.srdAck = false ∧ s.inputs.swrAck = false := by rw [hi]; decide
  have hd : s.inputs.dsackN = 0b11#2 := by rw [hi]; decide
  have hack : (wires s).dsackN = 0b11#2 := by simp [wires, out, outOf, sAck, h1, h2, resolveAck, hd]
  have hS : v.S ≠ .readDrive ∧ v.S ≠ .writeAck := by
    rcases hv with rfl | ⟨read, mask, rfl⟩
    · unfold slaveContinue
      split <;> simp_all [slaveAbort] <;> (repeat' split) <;> simp_all
    · cases read <;> simp [slaveBegin]
  refine ⟨by simp [tickWith, inputsNext, hc, hi], by simp [tickWith, hc], by simpa [tickWith, hr] using hS.1,
    by simpa [tickWith, hr] using hS.2, hack, ?_, by simpa [tickWith, syncNext] using hs1⟩
  simp [tickWith, syncNext, sampled, sampleLines, hw, hack, sampleVec]

/-- The hypotheses of both clauses of `UnacknowledgedTransferStalls`. -/
theorem witness_UnacknowledgedTransferStalls :
    isTrace (runFrom waiting) ∧ (runFrom waiting 0).master.M = .waitAck ∧ (runFrom waiting 0).A = .own ∧
      ∀ k, (runFrom waiting k).inputs.rst = false ∧ (runFrom waiting k).sync.s2.dsackN = 0b11#2 := by
  have h : ∀ k, unanswered (runFrom waiting k) := by
    intro k
    induction k with
    | zero => exact ⟨rfl, by decide, by decide, by decide, by decide, by decide, by decide⟩
    | succ k ih => exact unanswered_step _ _ ih (runFrom_isTrace _ k)
  refine ⟨runFrom_isTrace _, by decide, by decide, fun k => ⟨?_, (h k).2.2.2.2.2.2⟩⟩
  rw [(h k).1]
  decide

/-- A tri-state line that both sides drive is a fight; the wired-AND lines are none, though both sides pull them (R281). -/
theorem witness_FaultFlagsStickyWithoutEffect_lines :
    let s := muxState .readDrive .own .waitAck true
    busFight { s with inputs := { Inputs.idle with asN := some false } } = true ∧
      (out s).dsackOe = true ∧ (out s).bgackOe = true ∧ (out s).brOe = true ∧
      busFight { s with inputs := { Inputs.idle with dsackN := 0b00#2, bgackN := false, brN := false } } = false := by
  decide

/-- A reset of three ticks and an environment at rest after it. -/
def atRest : State :=
  { State.reset with
    inputs := { Inputs.idle with rst := true }
    script := [{ Inputs.idle with rst := true }, { Inputs.idle with rst := true }, Inputs.idle] }

theorem atRest_inputs (k : Nat) :
    (runFrom atRest (3 + k)).inputs = Inputs.idle ∧ (runFrom atRest (3 + k)).script = [] := by
  induction k with
  | zero => exact ⟨rfl, rfl⟩
  | succ k ih =>
    obtain ⟨v, m, he, -⟩ := step_cases (runFrom atRest (3 + k))
    have h := runFrom_isTrace atRest (3 + k)
    rw [he] at h
    injection h with h
    rw [← Nat.add_assoc, ← h]
    simp [tickWith, inputsNext, ih]

theorem atRest_undriven (k : Nat) : ∃ b, (runFrom atRest (2 + k)).inputs = { Inputs.idle with rst := b } := by
  cases k with
  | zero => exact ⟨true, rfl⟩
  | succ k =>
    refine ⟨false, ?_⟩
    rw [show 2 + (k + 1) = 3 + k by omega, (atRest_inputs k).1]
    rfl

/-- The hypotheses of the last clause of `FaultFlagsStickyWithoutEffect`: an environment at rest keeps every duty. -/
theorem witness_FaultFlagsStickyWithoutEffect_run :
    WellBehavedRun ⟨fun _ _ => 0#32, fun _ _ => 0#32, fun _ => False⟩ (runFrom atRest) 3 ∧
      (runFrom atRest 3).faults.busFight = false := by
  have hi : ∀ k, (ticksFrom (runFrom atRest) 3 k).inputs = Inputs.idle := fun k => (atRest_inputs k).1
  have hu : ∀ k, ∃ b, (ticksFrom (runFrom atRest) 2 k).inputs = { Inputs.idle with rst := b } := atRest_undriven
  have hx : ∀ k, ¬ extStrobe (ticksFrom (runFrom atRest) 2 k) := fun k h => by
    obtain ⟨b, e⟩ := hu k
    simp [extStrobe, e, Inputs.idle] at h
  have hg : ∀ k, (ticksFrom (runFrom atRest) 2 k).inputs.bgN = true := fun k => by
    obtain ⟨b, e⟩ := hu k
    rw [e]
    rfl
  have ha : ∀ k, ¬ extAck (ticksFrom (runFrom atRest) 2 k) := fun k h => by
    obtain ⟨b, e⟩ := hu k
    simp [extAck, e, Inputs.idle] at h
  have hb : ∀ k, ¬ ackBegins (ticksFrom (runFrom atRest) 2) k := fun k ⟨i, hl, _, h⟩ => by
    obtain ⟨b, e⟩ := hu (k + 1)
    rw [e] at h
    change (0b11#2).getLsbD i = false at h
    have hl : i < 2 := hl
    interval_cases i <;> simp at h
  have hq : ∀ k, req (ticksFrom (runFrom atRest) 3 k) = false := fun k => by simp [req, hi, Inputs.idle]
  refine ⟨⟨runFrom_isTrace _, ⟨by decide, by decide, ?_⟩, ?_, ?_, ?_, ?_, ?_, ?_⟩, by decide⟩
  · intro k h1 h2
    have : k < 3 := h2
    interval_cases k <;> decide
  · intro t i _ h
    simp [hi, Inputs.idle] at h
  · exact {
      stableBefore := fun t h => absurd h (hx _)
      dataBefore := fun t h => absurd h.1 (hx _)
      dataHeld := fun t ⟨j, _, h, _⟩ => absurd h.1 (hx j)
      negatedTwo := fun t h => absurd h.1 (hx _)
      negatedThree := fun t h => absurd h.1 (hx _)
      noCycleWhileOwned := fun t _ h => absurd h (hx _)
      noCycleSeenWhileOwned := fun t j h _ => absurd h.1 (hx _)
      noFight := fun t => by
        obtain ⟨b, e⟩ := hu t
        simp [busFight, fought, e, Inputs.idle]
      grantHeld := fun g t h => by simp [grantInForce, hg] at h
      noCycleWhileGranted := fun g t _ _ h => absurd h.1 (hx _)
      grantHeldOnRequest := fun t h => by simp [grantMet, hg] at h
      noCycleOnRequest := fun t _ h => absurd h.1 (hx _) }
  · exact {
      ackWhileStrobe := fun t h => absurd h (hb _)
      dataBeforeAck := fun t h => absurd h (hb _)
      dataHeld := fun t _ h => absurd h (ha _)
      released := fun t _ _ => ha _
      noDataOnWrite := fun t _ => by
        obtain ⟨b, e⟩ := hu t
        rw [e]
        rfl }
  · exact {
      ackOnRequest := fun t h => by simp [hi, Inputs.idle] at h
      presents := fun t x h => by simp [performedRead, hi, Inputs.idle] at h }
  · exact {
      ackOnRequest := fun t h => by simp [hi, Inputs.idle] at h
      writes := fun t x h => by simp [performedWrite, hi, Inputs.idle] at h }
  · exact {
      stable := fun t h => by simp [hq] at h
      dropsAfterAck := fun t _ _ => hq _ }

end Sys2Proof.Tests
end

/-! The operation a tick samples runs the component rules of that tick (R46, R110, R320). -/

namespace Sys2Proof.Machine

/-! ## The operations as `slaveOperation` and `dmaOperation` -/

theorem offset_cases : ∀ off : BitVec 2, off = 0b00#2 ∨ off = 0b01#2 ∨ off = 0b10#2 ∨ off = 0b11#2 := by
  decide

/-- The mask written in each row (R200 to R221) is the one R161 gives for the row's size and offset. -/
theorem exec_sd13Ops (win : Win) (siz : SizeCode) (off : BitVec 2) (s : State) :
    exec (readOpF9 (Config.sizeOf siz) off) s = slaveOperation true (lane siz off) s ∧
    exec (writeOpF9 (Config.sizeOf siz) off) s = slaveOperation false (lane siz off) s ∧
    exec (readOpFAFB win (Config.sizeOf siz) off) s = slaveOperation true (lane siz off) s ∧
    exec (writeOpFAFB win (Config.sizeOf siz) off) s = slaveOperation false (lane siz off) s := by
  unfold lane
  cases Config.sizeOf siz <;> obtain rfl | rfl | rfl | rfl := offset_cases off <;>
    exact ⟨rfl, rfl, rfl, rfl⟩

/-- What a decoded `SD13` descriptor runs: the direction and the mask are those of its own fields. -/
theorem exec_of_decodeSD13 {w : BitVec 13} {i : Instr} (h : decodeSD13 w = .ok i) (s : State) :
    exec i s = slaveOperation (sd13Rw w) (lane (sd13Siz w) (sd13Off w)) s := by
  obtain ⟨hreadF9, hwriteF9, hreadFAFB, hwriteFAFB⟩ :=
    exec_sd13Ops (sd13Win w) (sd13Siz w) (sd13Off w) s
  simp only [decodeSD13] at h
  split at h
  · cases hrw : sd13Rw w <;> simp only [hrw] at h <;> cases h
    · exact hwriteF9
    · exact hreadF9
  · split at h
    · cases hrw : sd13Rw w <;> simp only [hrw] at h <;> cases h
      · exact hwriteFAFB
      · exact hreadFAFB
    · cases h

/-- What a decoded `DD3` descriptor runs: the direction is that of its own field. -/
theorem exec_of_decodeDD3 {w : BitVec 3} {i : Instr} (h : decodeDD3 w = .ok i) (s : State) :
    exec i s = dmaOperation (dd3We w) s := by
  simp only [decodeDD3] at h
  split at h
  · cases hwe : dd3We w <;> simp only [hwe] at h <;> cases h <;> rfl
  · cases h

/-! ## When a descriptor selects nothing -/

theorem winInFAFB_iff (win : Win) : winInFAFB win = true ↔ win = 0xFA#8 ∨ win = 0xFB#8 :=
  ⟨Laws.TableRow.windows win, by rintro (rfl | rfl) <;> decide⟩

theorem mem_slotIds_iff (win : Win) : win ∈ Config.slotIds ↔ win = 0xF9#8 ∨ winInFAFB win = true := by
  simp [Config.slotIds, winInFAFB_iff]

theorem decodeSD13_eq_none_iff (w : BitVec 13) :
    (decodeSD13 w).toOption = none ↔ sd13Win w ∉ Config.slotIds := by
  rw [mem_slotIds_iff]
  simp only [decodeSD13]
  split
  · next h => simp [DecodeResult.toOption, h]
  · next h => split <;> next h' => simp [DecodeResult.toOption, h, h']

theorem decodeDD3_eq_none_iff (w : BitVec 3) :
    (decodeDD3 w).toOption = none ↔ (dd3Cyc w && dd3Stb w) = false := by
  simp only [decodeDD3]
  split <;> next h => simp [DecodeResult.toOption, h]

theorem decodeResult_toOption_eq_some {r : DecodeResult} {i : Instr} :
    r.toOption = some i ↔ r = .ok i := by
  cases r <;> simp [DecodeResult.toOption]

/-! ## The descriptors of the tick -/

@[simp] theorem sd13Win_sd13 (s : State) : sd13Win s.sd13 = winOf s.sync.s2.a := sd13Win_sd13Word _ _ _ _
@[simp] theorem sd13Rw_sd13 (s : State) : sd13Rw s.sd13 = s.sync.s2.rw := sd13Rw_sd13Word _ _ _ _
@[simp] theorem sd13Siz_sd13 (s : State) : sd13Siz s.sd13 = s.sync.s2.siz := sd13Siz_sd13Word _ _ _ _
@[simp] theorem sd13Off_sd13 (s : State) : sd13Off s.sd13 = offOf s.sync.s2.a := sd13Off_sd13Word _ _ _ _

theorem dd3Word_fields : ∀ cyc stb we : Bool, dd3Cyc (dd3Word cyc stb we) = cyc ∧
    dd3Stb (dd3Word cyc stb we) = stb ∧ dd3We (dd3Word cyc stb we) = we := by
  decide

@[simp] theorem dd3Cyc_dd3 (s : State) : dd3Cyc s.dd3 = s.inputs.dmaCyc := (dd3Word_fields _ _ _).1
@[simp] theorem dd3Stb_dd3 (s : State) : dd3Stb s.dd3 = s.inputs.dmaStb := (dd3Word_fields _ _ _).2.1
@[simp] theorem dd3We_dd3 (s : State) : dd3We s.dd3 = s.inputs.dmaWe := (dd3Word_fields _ _ _).2.2

/-! ## The step is the tick of the component rules -/

/-- The operation of the sampled `SD13` descriptor is the tick of the component rules. -/
theorem exec_sampled_sd13 {s : State} {i : Instr} (h : decodeSD13 s.sd13 = .ok i) :
    exec i s = .next (tick s) := by
  rw [exec_of_decodeSD13 h, sd13Rw_sd13, sd13Siz_sd13, sd13Off_sd13]
  rfl

/-- The operation of the sampled `DD3` descriptor is the tick of the component rules. -/
theorem exec_sampled_dd3 {s : State} {i : Instr} (h : decodeDD3 s.dd3 = .ok i) :
    exec i s = .next (tick s) := by
  rw [exec_of_decodeDD3 h, dd3We_dd3]
  rfl

/-- A cycle start samples a descriptor in the windows, so it samples an operation. -/
theorem start_false_of_slaveOp_none {s : State} (h : slaveOp s = none) : start s = false := by
  rw [Bool.eq_false_iff]
  intro hstart
  obtain ⟨hS, hfall, hsel⟩ := (start_iff s).1 hstart
  have hsamples : samplesSD13 s = true := by simp [samplesSD13, hS, hfall]
  rw [slaveOp, if_pos hsamples, decodeSD13_eq_none_iff, sd13Win_sd13] at h
  exact h ((sel_iff s).1 hsel)

/-- A transfer start samples a descriptor with a request, so it samples an operation. -/
theorem masterStarts_false_of_dmaOp_none {s : State} (h : dmaOp s = none) : masterStarts s = false := by
  rw [Bool.eq_false_iff]
  intro hstart
  obtain ⟨hM, hA, hreq⟩ := (masterStarts_iff s).1 hstart
  have hsamples : samplesDD3 s = true := by simp [samplesDD3, hM, hA]
  rw [dmaOp, if_pos hsamples, decodeDD3_eq_none_iff, dd3Cyc_dd3, dd3Stb_dd3] at h
  exact Bool.false_ne_true (h.symm.trans hreq)

theorem decodeSD13_of_slaveOp {s : State} {i : Instr} (h : slaveOp s = some i) :
    decodeSD13 s.sd13 = .ok i := by
  unfold slaveOp at h
  split at h
  · exact decodeResult_toOption_eq_some.1 h
  · cases h

theorem decodeDD3_of_dmaOp {s : State} {i : Instr} (h : dmaOp s = some i) :
    decodeDD3 s.dd3 = .ok i := by
  unfold dmaOp at h
  split at h
  · exact decodeResult_toOption_eq_some.1 h
  · cases h

/-- A tick that starts neither a cycle nor a transfer is the quiet one. -/
theorem quietTick_eq_tick {s : State} (hs : start s = false) (hm : masterStarts s = false) :
    quietTick s = tick s := by
  rw [quietTick, tick, slaveNext_continue s hs, masterNext_continue s hm]

/-- The step a tick takes, whatever it samples. -/
theorem step_eq_tick (s : State) : step s = .next (tick s) := by
  unfold step
  split
  · next h => exact exec_sampled_sd13 (decodeSD13_of_slaveOp h)
  · next hslave =>
    split
    · next h => exact exec_sampled_dd3 (decodeDD3_of_dmaOp h)
    · next hdma =>
      rw [quietTick_eq_tick (start_false_of_slaveOp_none hslave) (masterStarts_false_of_dmaOp_none hdma)]

theorem eq_tick_of_step {s t : State} (h : step s = .next t) : t = tick s := by
  rw [step_eq_tick] at h
  exact (Host.Outcome.next.inj h).symm

@[simp] theorem tick_sync (s : State) : (tick s).sync = syncNext s := rfl
@[simp] theorem tick_slave (s : State) : (tick s).slave = resetSlave s.inputs.rst (slaveNext s) := rfl
@[simp] theorem tick_A (s : State) : (tick s).A = resetArb s.inputs.rst (arbNext s) := rfl
@[simp] theorem tick_master (s : State) : (tick s).master = resetMaster s.inputs.rst (masterNext s) := rfl

/-! ## The statements about the step and the operations -/

/-- Settles O8: the sampled descriptor selects the direction and the mask the component rules take. -/
theorem stepIsComponentTick : Obligations.StepIsComponentTick := step_eq_tick

/-- Settles O7: both the step and the operation are the tick of the component rules. -/
theorem stepRunsSampledDmaOperation : Obligations.StepRunsSampledDmaOperation := by
  intro s i _ _ hdec
  rw [step_eq_tick, exec_sampled_dd3 hdec]

/-- Each operation is one of the two kinds, as its descriptor's format says. -/
theorem exec_eq_operation (i : Instr) :
    (Claims.isSlave i = true ∧ ∃ read mask, ∀ s, exec i s = slaveOperation read mask s) ∨
    (Claims.isSlave i = false ∧ ∃ we, ∀ s, exec i s = dmaOperation we s) := by
  cases i
  case dmaRd => exact .inr ⟨rfl, false, fun _ => rfl⟩
  case dmaWr => exact .inr ⟨rfl, true, fun _ => rfl⟩
  all_goals exact .inl ⟨rfl, _, _, fun _ => rfl⟩

/-- Settles O15: each kind of operation is a tick in which only its own component's rule is replaced. -/
theorem everyOperationAnswersNext : Obligations.EveryOperationAnswersNext := by
  intro i s
  obtain ⟨hslave, read, mask, hexec⟩ | ⟨hdma, we, hexec⟩ := exec_eq_operation i
  · exact ⟨_, hexec s, rfl, rfl, rfl, rfl, rfl, fun _ => rfl, fun h => by simp [hslave] at h⟩
  · exact ⟨_, hexec s, rfl, rfl, rfl, rfl, rfl, fun h => by simp [hdma] at h, fun _ => rfl⟩

end Sys2Proof.Machine

/-! The invariant on the context of an open slave cycle (R39, R182 to R184). -/

namespace Sys2Proof.Safety

open Sys2Proof.Machine

/-- `contextSound` as a property of the Slave Responder's registers. -/
def contextSoundRegs (v : SlaveRegs) : Prop :=
  v.S ≠ .idle →
    windowOf v.ctxAdr ∈ Config.slotIds ∧ v.ctxMask ∈ laneMasks ∧ v.ctxDir = readState v.S

theorem contextSound_iff_regs (s : State) : contextSound s ↔ contextSoundRegs s.slave := Iff.rfl

theorem contextSoundRegs_of_idle {v : SlaveRegs} (h : v.S = .idle) : contextSoundRegs v :=
  fun hbusy => absurd h hbusy

theorem lane_mem_laneMasks : ∀ (siz : SizeCode) (off : BitVec 2), lane siz off ∈ laneMasks := by decide

/-- A cycle start latches a selected address and a mask of the table, and `S` takes the branch of the direction. -/
theorem slaveBegin_contextSound {s : State} (hsel : sel s = true) (read : Bool) (siz : SizeCode) (off : BitVec 2) :
    contextSoundRegs (slaveBegin read (lane siz off) s) := by
  intro _
  refine ⟨?_, lane_mem_laneMasks siz off, ?_⟩
  · rw [slaveBegin_ctxAdr, windowOf, window_of_wordAddr]
    exact (sel_iff s).1 hsel
  · cases read <;> rfl

/-- A move of `S` within one direction of an open cycle leaves the context sound. -/
theorem contextSoundRegs_of_same_context {v w : SlaveRegs} (hv : contextSoundRegs v) (hopen : v.S ≠ .idle)
    (hadr : w.ctxAdr = v.ctxAdr) (hmask : w.ctxMask = v.ctxMask) (hdir : w.ctxDir = v.ctxDir)
    (hS : readState w.S = readState v.S) : contextSoundRegs w := by
  intro _
  rw [hadr, hmask, hdir, hS]
  exact hv hopen

/-- The rules of an open cycle keep its context and its direction until it ends. -/
theorem slaveContinue_contextSound {s : State} (h : contextSoundRegs s.slave) :
    contextSoundRegs (slaveContinue s) := by
  obtain hstay | ⟨-, -, habort⟩ | ⟨hS, -, -, hmove⟩ | ⟨hS, -, -, hmove⟩ | ⟨hS, -, -, hmove⟩ :=
    slaveContinue_cases s
  · rwa [hstay]
  · rw [habort]
    exact contextSoundRegs_of_idle (slaveAbort_S _)
  all_goals
    rw [hmove]
    exact contextSoundRegs_of_same_context h (by simp [hS]) rfl rfl rfl (by rw [hS]; rfl)

theorem slaveNext_contextSound {s : State} (h : contextSoundRegs s.slave) : contextSoundRegs (slaveNext s) := by
  cases hstart : start s with
  | false =>
    rw [slaveNext_continue s hstart]
    exact slaveContinue_contextSound h
  | true =>
    obtain ⟨-, -, hsel⟩ := (start_iff s).1 hstart
    rw [slaveNext_start s hstart]
    exact slaveBegin_contextSound hsel _ _ _

theorem resetSlave_contextSound {v : SlaveRegs} (h : contextSoundRegs v) (rst : Bool) :
    contextSoundRegs (resetSlave rst v) := by
  cases rst with
  | false => exact h
  | true => exact contextSoundRegs_of_idle rfl

/-- Settles O28: a cycle start establishes a sound context, and the rules of an open cycle keep it. -/
theorem stepKeepsContextSound : Obligations.StepKeepsContextSound := by
  intro s t hsound hstep
  rw [eq_tick_of_step hstep, contextSound_iff_regs, tick_slave]
  exact resetSlave_contextSound (slaveNext_contextSound hsound) _

end Sys2Proof.Safety

/-! Reset: the state right after it, and what three ticks of it flush (R49 to R51, R321). -/

namespace Sys2Proof.Safety

open Sys2Proof.Machine

/-- A reset edge forces the three machines to idle (R49). -/
theorem tick_machines_idle_of_rst {s : State} (h : s.inputs.rst = true) :
    (tick s).slave.S = .idle ∧ (tick s).A = .idle ∧ (tick s).master.M = .idle := by
  simp [h]

/-- Settles O59: the reset edge idles the machines, and each stage moves on by one in every tick, reset or not. -/
theorem threeResetTicksFlush : Obligations.ThreeResetTicksFlush := by
  intro s t u v _ _ hu hst htu huv
  obtain rfl := eq_tick_of_step huv
  have ht_s1 : t.sync.s1 = sampled s := by rw [eq_tick_of_step hst]; rfl
  have hu_s1 : u.sync.s1 = sampled t := by rw [eq_tick_of_step htu]; rfl
  have hu_s2 : u.sync.s2 = sampled s := by rw [eq_tick_of_step htu, ← ht_s1]; rfl
  obtain ⟨hS, hA, hM⟩ := tick_machines_idle_of_rst hu
  refine ⟨hS, hA, hM, rfl, hu_s1, ?_, ?_⟩
  · rw [tick_sync, syncNext_asPrev, hu_s2]
  · rw [fall_iff, tick_sync, syncNext_asPrev, syncNext_s2, hu_s1, hu_s2]

theorem reset_machines_idle :
    State.reset.slave.S = .idle ∧ State.reset.A = .idle ∧ State.reset.master.M = .idle :=
  ⟨rfl, rfl, rfl⟩

/-- Settles O43: both invariants speak of a busy machine only. -/
theorem invariantsHoldAtReset : Obligations.InvariantsHoldAtReset := by
  obtain ⟨hS, -, hM⟩ := reset_machines_idle
  exact ⟨fun hbusy => absurd hM hbusy, contextSoundRegs_of_idle hS⟩

/-- An idle block has nothing in flight, so it is quiescent (R312). -/
theorem quiescent_of_machines_idle {s : State} (hS : s.slave.S = .idle) (hA : s.A = .idle)
    (hM : s.master.M = .idle) : quiescent s = true := by
  rw [quiescent_iff, inFlight, hS, hA, hM]
  rfl

/-- No strobe falls at reset: both of its samples are negated. -/
theorem reset_start_eq_false : start State.reset = false := by
  rw [Bool.eq_false_iff]
  intro hstart
  obtain ⟨-, hfall, -⟩ := (start_iff _).1 hstart
  obtain ⟨-, hasserted⟩ := (fall_iff _).1 hfall
  cases hasserted

/-- Settles O60: quiescence from the idle machines, no start from the negated strobe, the levels from log 3. -/
theorem resetStateIsQuiescent : Obligations.ResetStateIsQuiescent := by
  obtain ⟨hS, hA, hM⟩ := reset_machines_idle
  exact ⟨hS, hA, hM, quiescent_of_machines_idle hS hA hM, rfl, rfl, rfl, rfl, rfl, rfl, rfl,
    reset_start_eq_false, rfl⟩

end Sys2Proof.Safety

/-! The outputs as functions of the registers (R47, R51). -/

namespace Sys2Proof.Machine

/-- Of the Synchronizer Bank the outputs read the synchronized data only. -/
theorem outOf_congr_data {x y : Sync} (h : x.s2.d = y.s2.d) (v : SlaveRegs) (A : AState) (m : MasterRegs) :
    outOf x v A m = outOf y v A m := by
  simp only [outOf, h]

/-- Settles O52: the outputs are `outOf` of the registers, which reads no input. -/
theorem outputsReadNoInput : Obligations.OutputsReadNoInput := by
  intro s t hdata hslave hA hmaster
  rw [out, out, hslave, hA, hmaster]
  exact outOf_congr_data hdata _ _ _

/-! ## The drive requests of an idle machine -/

theorem sAck_of_idle {v : SlaveRegs} (h : v.S = .idle) : sAck v = false := by simp [sAck, h]
theorem sDrive_of_idle {v : SlaveRegs} (h : v.S = .idle) : sDrive v = false := by simp [sDrive, h]
theorem mDrive_of_idle {m : MasterRegs} (h : m.M = .idle) : mDrive m = false := by simp [mDrive, h]

/-- Settles O54: each enable, request and acknowledge is a test of one machine's state, or a drive request of it. -/
theorem idleDrivesNothing : Obligations.IdleDrivesNothing := by
  intro s hS hA hM
  have hack := sAck_of_idle hS
  have hsdrive := sDrive_of_idle hS
  have hmdrive := mDrive_of_idle hM
  simp [out, outOf, hS, hA, hM, hack, hsdrive, hmdrive]

end Sys2Proof.Machine

/-! The slave side of a cycle and its internal transfer: a cycle for another device is ignored (R84), one inside the
windows performs at most one transfer (R97) and is acknowledged only after it (R102). -/

namespace Sys2Proof.Machine

/-! ## What the outputs and the performed transfers say of `S` -/

theorem srdCycO_iff (s : State) : (out s).srdCycO = true ↔ s.slave.S = .readRequest := by
  simp [out, outOf]

theorem swrCycO_iff (s : State) : (out s).swrCycO = true ↔ s.slave.S = .writeRequest := by
  simp [out, outOf]

theorem dsackOe_iff (s : State) :
    (out s).dsackOe = true ↔ s.slave.S = .readDrive ∨ s.slave.S = .writeAck := by
  simp [out, outOf, sAck]

theorem performedRead_eq (s : State) :
    performedRead s = if s.slave.S = .readRequest ∧ s.inputs.srdAck = true then
      some ⟨s.slave.ctxAdr, s.slave.ctxMask, s.inputs.srdDat⟩ else none := by
  simp [performedRead, out, outOf]

theorem performedWrite_eq (s : State) :
    performedWrite s = if s.slave.S = .writeRequest ∧ s.inputs.swrAck = true then
      some ⟨s.slave.ctxAdr, s.slave.ctxMask, s.sync.s2.d⟩ else none := by
  simp [performedWrite, out, outOf]

theorem performedRead_ne_none_iff (s : State) :
    performedRead s ≠ none ↔ s.slave.S = .readRequest ∧ s.inputs.srdAck = true := by
  simp [performedRead_eq]

theorem performedWrite_ne_none_iff (s : State) :
    performedWrite s ≠ none ↔ s.slave.S = .writeRequest ∧ s.inputs.swrAck = true := by
  simp [performedWrite_eq]

/-! ## The Slave Responder's rule, state by state -/

theorem slaveContinue_idle {s : State} (h : s.slave.S = .idle) : slaveContinue s = s.slave := by
  simp [slaveContinue, h]

theorem slaveContinue_readRequest {s : State} (h : s.slave.S = .readRequest) :
    slaveContinue s = if withdrawn s then slaveAbort s.slave
      else if s.inputs.srdAck then { s.slave with S := .readDrive, rdata := s.inputs.srdDat } else s.slave := by
  simp [slaveContinue, h]

theorem slaveContinue_writeRequest {s : State} (h : s.slave.S = .writeRequest) :
    slaveContinue s = if withdrawn s then slaveAbort s.slave
      else if s.inputs.swrAck then { s.slave with S := .writeAck } else s.slave := by
  simp [slaveContinue, h]

theorem resetSlave_of_idle {v : SlaveRegs} (h : v.S = .idle) (rst : Bool) : resetSlave rst v = v := by
  cases rst with
  | false => rfl
  | true => rw [resetSlave_true, ← h]

/-- Everything a tick can do to the Slave Responder. The first case is an abort, a reset edge, or staying idle. -/
theorem tick_slave_cases (s : State) :
    ((tick s).slave.S = .idle) ∨
    ((tick s).slave = s.slave) ∨
    (start s = true ∧
      (tick s).slave = slaveBegin s.sync.s2.rw (lane s.sync.s2.siz (offOf s.sync.s2.a)) s) ∨
    (s.slave.S = .readRequest ∧ withdrawn s = false ∧ s.inputs.srdAck = true ∧
      (tick s).slave = { s.slave with S := .readDrive, rdata := s.inputs.srdDat }) ∨
    (s.slave.S = .writeWaitData ∧ withdrawn s = false ∧ s.sync.s2.dsN = false ∧
      (tick s).slave = { s.slave with S := .writeRequest }) ∨
    (s.slave.S = .writeRequest ∧ withdrawn s = false ∧ s.inputs.swrAck = true ∧
      (tick s).slave = { s.slave with S := .writeAck }) := by
  rw [tick_slave]
  cases s.inputs.rst with
  | true => exact .inl rfl
  | false =>
    rw [resetSlave_false]
    cases hstart : start s with
    | true => exact .inr (.inr (.inl ⟨rfl, slaveNext_start s hstart⟩))
    | false =>
      rw [slaveNext_continue s hstart]
      obtain hstay | ⟨-, -, habort⟩ | hread | hdata | hwrite := slaveContinue_cases s
      · exact .inr (.inl hstay)
      · exact .inl (by rw [habort, slaveAbort_S])
      · exact .inr (.inr (.inr (.inl hread)))
      · exact .inr (.inr (.inr (.inr (.inl hdata))))
      · exact .inr (.inr (.inr (.inr (.inr hwrite))))

/-! ## A cycle for another device -/

/-- An idle Slave Responder that starts no cycle keeps every register, reset or not. -/
theorem tick_slave_of_idle_not_start {s : State} (hS : s.slave.S = .idle) (hstart : start s = false) :
    (tick s).slave = s.slave := by
  rw [tick_slave, slaveNext_continue s hstart, slaveContinue_idle hS, resetSlave_of_idle hS]

theorem start_false_of_not_selected {s : State} (h : winOf s.sync.s2.a ∉ Config.slotIds) : start s = false := by
  rw [Bool.eq_false_iff]
  intro hstart
  obtain ⟨-, -, hsel⟩ := (start_iff s).1 hstart
  exact h ((sel_iff s).1 hsel)

/-- Settles O9: no selection, no start, so the idle registers stay and drive nothing. -/
theorem unselectedCycleIgnored : Obligations.UnselectedCycleIgnored := by
  intro s hS hwin
  have hkeep : (tick s).slave = s.slave := tick_slave_of_idle_not_start hS (start_false_of_not_selected hwin)
  have hidle : (tick s).slave.S = .idle := by rw [hkeep, hS]
  refine ⟨tick s, step_eq_tick s, hkeep, sAck_of_idle hidle, sDrive_of_idle hidle, ?_, ?_⟩
  · rw [Bool.eq_false_iff, ne_eq, srdCycO_iff, hidle]
    decide
  · rw [Bool.eq_false_iff, ne_eq, swrCycO_iff, hidle]
    decide

/-! ## The acknowledge comes after the transfer -/

/-- Settles O23: of the moves a tick can make, only the two answered requests lead into an acknowledging state. -/
theorem acknowledgeOnlyAfterInternalTransfer : Obligations.AcknowledgeOnlyAfterInternalTransfer := by
  intro s t hstep hbefore hafter
  obtain rfl := eq_tick_of_step hstep
  rw [Bool.eq_false_iff, ne_eq, dsackOe_iff] at hbefore
  rw [dsackOe_iff] at hafter
  obtain hidle | hstay | ⟨-, hbegin⟩ | ⟨hS, -, hack, hmove⟩ | ⟨-, -, -, hmove⟩ | ⟨hS, -, hack, hmove⟩ :=
    tick_slave_cases s
  · rw [hidle] at hafter
    simp at hafter
  · rw [hstay] at hafter
    exact absurd hafter hbefore
  · rw [hbegin, slaveBegin_S] at hafter
    cases hrw : s.sync.s2.rw <;> simp [hrw] at hafter
  · exact .inl (by rw [hmove]; simp [performedRead_eq, hS, hack])
  · rw [hmove] at hafter
    simp at hafter
  · exact .inr (by rw [hmove]; simp [performedWrite_eq, hS, hack])

end Sys2Proof.Machine

namespace Sys2Proof.Safety

open Sys2Proof.Machine

/-! ## At most one transfer per cycle -/

/-- The open cycle has its internal transfer still before it: the states of `externalAbort`. -/
def awaitsTransfer (S : SState) : Prop :=
  S = .readRequest ∨ S = .writeWaitData ∨ S = .writeRequest

theorem externalAbort_iff (s : State) :
    externalAbort s = true ↔ awaitsTransfer s.slave.S ∧ withdrawn s = true := by
  simp [externalAbort, awaitsTransfer, or_assoc]

/-- The tick performs an internal transfer, on `srd` or on `swr`. -/
def performsTransfer (s : State) : Prop := performedRead s ≠ none ∨ performedWrite s ≠ none

theorem performsTransfer_iff (s : State) :
    performsTransfer s ↔ (s.slave.S = .readRequest ∧ s.inputs.srdAck = true) ∨
      (s.slave.S = .writeRequest ∧ s.inputs.swrAck = true) := by
  rw [performsTransfer, performedRead_ne_none_iff, performedWrite_ne_none_iff]

theorem awaitsTransfer_of_performsTransfer {s : State} (h : performsTransfer s) : awaitsTransfer s.slave.S := by
  obtain ⟨hS, -⟩ | ⟨hS, -⟩ := (performsTransfer_iff s).1 h
  · exact .inl hS
  · exact .inr (.inr hS)

theorem not_awaitsTransfer_idle : ¬ awaitsTransfer .idle := by simp [awaitsTransfer]

theorem not_awaitsTransfer_resetSlave {v : SlaveRegs} (h : ¬ awaitsTransfer v.S) (rst : Bool) :
    ¬ awaitsTransfer (resetSlave rst v).S := by
  cases rst with
  | false => exact h
  | true => exact not_awaitsTransfer_idle

/-- The tick of a transfer ends the request, whether the cycle is then acknowledged or aborted in the same tick (R99). -/
theorem not_awaitsTransfer_tick_of_performsTransfer {s : State} (h : performsTransfer s) :
    ¬ awaitsTransfer (tick s).slave.S := by
  rw [tick_slave]
  refine not_awaitsTransfer_resetSlave ?_ _
  obtain ⟨hS, hack⟩ | ⟨hS, hack⟩ := (performsTransfer_iff s).1 h
  all_goals rw [slaveNext_continue s (start_false_of_busy s (by simp [hS]))]
  · rw [slaveContinue_readRequest hS, hack]
    split <;> simp [awaitsTransfer]
  · rw [slaveContinue_writeRequest hS, hack]
    split <;> simp [awaitsTransfer]

/-- Only a cycle start gives the Slave Responder a new transfer to perform. -/
theorem not_awaitsTransfer_tick {s : State} (h : ¬ awaitsTransfer s.slave.S) (hstart : start s = false) :
    ¬ awaitsTransfer (tick s).slave.S := by
  obtain hidle | hstay | ⟨hbegin, -⟩ | ⟨-, -, -, hmove⟩ | ⟨hS, -⟩ | ⟨-, -, -, hmove⟩ := tick_slave_cases s
  · rw [hidle]
    exact not_awaitsTransfer_idle
  · rwa [hstay]
  · exact absurd hbegin (by simp [hstart])
  · rw [hmove]
    simp [awaitsTransfer]
  · exact absurd (.inr (.inl hS)) h
  · rw [hmove]
    simp [awaitsTransfer]

/-- Along a run nothing is left to transfer from the tick after a transfer until the next cycle start. -/
theorem not_awaitsTransfer_until_start {tr : Nat → State} (htr : isTrace tr) {j k : Nat} (hjk : j + 1 ≤ k)
    (hj : performsTransfer (tr j)) (hno : ∀ i, j < i → i < k → start (tr i) = false) :
    ¬ awaitsTransfer (tr k).slave.S := by
  induction k, hjk using Nat.le_induction with
  | base =>
    rw [eq_tick_of_step (htr j)]
    exact not_awaitsTransfer_tick_of_performsTransfer hj
  | succ k hjk ih =>
    rw [eq_tick_of_step (htr k)]
    exact not_awaitsTransfer_tick (ih fun i hji hik => hno i hji (Nat.lt_succ_of_lt hik))
      (hno k hjk (Nat.lt_succ_self k))

/-- A read and a write are performed in different states of the Slave Responder. -/
theorem performedRead_or_performedWrite_eq_none (s : State) :
    performedRead s = none ∨ performedWrite s = none := by
  by_contra hboth
  obtain ⟨hread, hwrite⟩ := not_or.1 hboth
  obtain ⟨hS, -⟩ := (performedRead_ne_none_iff s).1 hread
  obtain ⟨hS', -⟩ := (performedWrite_ne_none_iff s).1 hwrite
  exact absurd (hS.symm.trans hS') (by decide)

/-- Settles O24: one request at a time, and without a cycle start in between the later tick has none to perform. -/
theorem oneInternalTransferPerCycle : Obligations.OneInternalTransferPerCycle := by
  refine ⟨performedRead_or_performedWrite_eq_none, ?_⟩
  intro tr j k htr hjk hj hk
  by_contra hnone
  have hno : ∀ i, j < i → i < k → start (tr i) = false := fun i hji hik =>
    Bool.eq_false_iff.2 fun hstart => hnone ⟨i, hji, hik, hstart⟩
  exact not_awaitsTransfer_until_start htr hjk hj hno (awaitsTransfer_of_performsTransfer hk)

end Sys2Proof.Safety

/-! The descriptor formats (30_encoding.md R110 to R119): the map of R115 as one operation per field values, and from it
the two round trips and the cover by the rows of the opcode table. -/

namespace Sys2Proof.Machine

/-! ## The operation of an `SD13` descriptor's fields -/

/-- The operation that R115 gives the fields of a selected `SD13` descriptor. -/
def sd13Op (win : Win) (read : Bool) (size : Size) (off : BitVec 2) : Instr :=
  if win = 0xF9#8 then (if read then readOpF9 size off else writeOpF9 size off)
  else (if read then readOpFAFB win size off else writeOpFAFB win size off)

theorem slotIds_cases {win : Win} (h : win ∈ Config.slotIds) : win = 0xF9#8 ∨ win = 0xFA#8 ∨ win = 0xFB#8 := by
  simpa [Config.slotIds] using h

theorem decodeSD13_eq (w : BitVec 13) :
    decodeSD13 w = if sd13Win w ∈ Config.slotIds then
      .ok (sd13Op (sd13Win w) (sd13Rw w) (Config.sizeOf (sd13Siz w)) (sd13Off w))
    else .rejected .notSelected := by
  by_cases hF9 : sd13Win w = 0xF9#8
  · simp [decodeSD13, sd13Op, mem_slotIds_iff, hF9]
  · simp [decodeSD13, sd13Op, mem_slotIds_iff, hF9]

theorem decodeSD13_of_selected {w : BitVec 13} (h : sd13Win w ∈ Config.slotIds) :
    decodeSD13 w = .ok (sd13Op (sd13Win w) (sd13Rw w) (Config.sizeOf (sd13Siz w)) (sd13Off w)) := by
  rw [decodeSD13_eq, if_pos h]

theorem decodeSD13_of_not_selected {w : BitVec 13} (h : sd13Win w ∉ Config.slotIds) :
    decodeSD13 w = .rejected .notSelected := by
  rw [decodeSD13_eq, if_neg h]

theorem decodeSD13_eq_ok_iff (w : BitVec 13) (i : Instr) :
    decodeSD13 w = .ok i ↔ sd13Win w ∈ Config.slotIds ∧
      sd13Op (sd13Win w) (sd13Rw w) (Config.sizeOf (sd13Siz w)) (sd13Off w) = i := by
  rw [decodeSD13_eq]
  split <;> simp [*]

/-! ## The size code (R112) -/

@[simp] theorem sizeOf_sizeCode (size : Size) : Config.sizeOf (Config.sizeCode size) = size := by
  cases size <;> rfl

@[simp] theorem sizeCode_sizeOf : ∀ siz : SizeCode, Config.sizeCode (Config.sizeOf siz) = siz := by
  decide

/-! ## The encoder on the operation of given fields -/

/-- The encoder lays out the fields that the operation was chosen from. -/
theorem encode_sd13Op (win : Win) (read : Bool) (size : Size) (off : BitVec 2) :
    encode (sd13Op win read size off) = .sd13 (sd13Word win read (Config.sizeCode size) off) := by
  by_cases hF9 : win = 0xF9#8
  · subst hF9
    cases read <;> cases size <;> obtain rfl | rfl | rfl | rfl := offset_cases off <;> rfl
  · rw [sd13Op, if_neg hF9]
    cases read <;> cases size <;> obtain rfl | rfl | rfl | rfl := offset_cases off <;> rfl

/-- A row with a window field is chosen for 0xFA and 0xFB only, and a row with an offset field only where that is odd. -/
theorem wellFormed_sd13Op {win : Win} (h : win ∈ Config.slotIds) (read : Bool) (size : Size) (off : BitVec 2) :
    (sd13Op win read size off).wellFormed = true := by
  obtain rfl | rfl | rfl := slotIds_cases h
  all_goals cases read <;> cases size <;> obtain rfl | rfl | rfl | rfl := offset_cases off <;> rfl

/-! ## Decoding an encoding -/

theorem decode_sd13Word {win : Win} (h : win ∈ Config.slotIds) (read : Bool) (size : Size) (off : BitVec 2) :
    decode (.sd13 (sd13Word win read (Config.sizeCode size) off)) = .ok (sd13Op win read size off) := by
  rw [decode, decodeSD13_of_selected (by rwa [sd13Win_sd13Word]), sd13Win_sd13Word, sd13Rw_sd13Word,
    sd13Siz_sd13Word, sd13Off_sd13Word, sizeOf_sizeCode]

/-- Settles O1. Each row's encoding is a word laid out from fields, and those fields choose the row's operation: at once
where the row fixes them, and at each window and offset its check allows where it does not. -/
theorem decodeEncodeRoundTrip : Obligations.DecodeEncodeRoundTrip := by
  intro i hwf
  cases i
  case dmaRd | dmaWr => rfl
  case srdWXF9 off | srdTX1F9 off | swrWXF9 off | swrTX1F9 off =>
    obtain rfl | rfl := Laws.TableRow.oddOffsets off hwf <;> exact decode_sd13Word (by decide) _ _ _
  case srdWXFAFB win off | srdTX1FAFB win off | swrWXFAFB win off | swrTX1FAFB win off =>
    obtain ⟨hwin, hodd⟩ := (Bool.and_eq_true _ _).mp hwf
    obtain rfl | rfl := Laws.TableRow.windows win hwin <;>
      obtain rfl | rfl := Laws.TableRow.oddOffsets off hodd <;> exact decode_sd13Word (by decide) _ _ _
  case srdLFAFB win _ | srdB0FAFB win | srdB1FAFB win | srdB2FAFB win | srdB3FAFB win | srdW0FAFB win | srdW2FAFB win
      | srdT0FAFB win | srdTX2FAFB win | swrLFAFB win _ | swrB0FAFB win | swrB1FAFB win | swrB2FAFB win
      | swrB3FAFB win | swrW0FAFB win | swrW2FAFB win | swrT0FAFB win | swrTX2FAFB win =>
    obtain rfl | rfl := Laws.TableRow.windows win hwf <;> exact decode_sd13Word (by decide) _ _ _
  all_goals exact decode_sd13Word (by decide) _ _ _

end Sys2Proof.Machine

namespace Sys2Proof.Machine

/-! ## Encoding what was decoded -/

theorem dd3Word_of_fields : ∀ w : BitVec 3, dd3Word (dd3Cyc w) (dd3Stb w) (dd3We w) = w := by decide

theorem encode_of_decodeSD13 {w : BitVec 13} {i : Instr} (h : decodeSD13 w = .ok i) :
    encode i = .sd13 w ∧ i.wellFormed = true := by
  obtain ⟨hsel, rfl⟩ := (decodeSD13_eq_ok_iff w i).1 h
  refine ⟨?_, wellFormed_sd13Op hsel _ _ _⟩
  rw [encode_sd13Op, sizeCode_sizeOf, sd13Word_fields]

theorem encode_of_decodeDD3 {w : BitVec 3} {i : Instr} (h : decodeDD3 w = .ok i) :
    encode i = .dd3 w ∧ i.wellFormed = true := by
  rw [← dd3Word_of_fields w]
  simp only [decodeDD3] at h
  split at h
  · next hreq =>
    obtain ⟨hcyc, hstb⟩ := (Bool.and_eq_true _ _).mp hreq
    rw [hcyc, hstb]
    cases hwe : dd3We w <;> simp only [hwe] at h <;> cases h <;> exact ⟨rfl, rfl⟩
  · cases h

/-- Settles O2, format by format. -/
theorem encodeDecodeRoundTrip : Obligations.EncodeDecodeRoundTrip := by
  intro d i h
  cases d with
  | sd13 w => exact encode_of_decodeSD13 h
  | dd3 w => exact encode_of_decodeDD3 h

/-! ## The rows of the opcode table -/

/-- Two rows disagree on a bit that both fix. -/
def rowsConflict (r r' : TableRow) : Prop := r.value &&& r'.mask ≠ r'.value &&& r.mask

theorem mask_of_selects {r : TableRow} {d : Descriptor} (h : r.selects d = true) : d.toNat &&& r.mask = r.value := by
  obtain ⟨-, hvalue⟩ := (Bool.and_eq_true _ _).mp h
  exact eq_of_beq hvalue

/-- No descriptor is matched by two rows in conflict. -/
theorem not_selects_of_rowsConflict {r r' : TableRow} {d : Descriptor} (hconf : rowsConflict r r')
    (h : r.selects d = true) : ¬ r'.selects d = true := by
  intro h'
  refine hconf ?_
  rw [← mask_of_selects h, ← mask_of_selects h', Nat.and_right_comm]

theorem sd13Rows_conflict : sd13Rows.Pairwise rowsConflict := by
  unfold rowsConflict
  decide

/-- Of a list whose elements exclude each other, a predicate that holds of one element keeps that one alone. -/
theorem length_filter_eq_one {α : Type} {p : α → Bool} {l : List α} {a : α} (ha : a ∈ l) (hpa : p a = true)
    (hl : l.Pairwise fun x y => p x = true → ¬ p y = true) : (l.filter p).length = 1 := by
  induction l with
  | nil => cases ha
  | cons x xs ih =>
    obtain ⟨hx, hxs⟩ := List.pairwise_cons.1 hl
    obtain rfl | hmem := List.mem_cons.1 ha
    · have hnone : xs.filter p = [] := List.filter_eq_nil_iff.2 fun y hy => hx y hy hpa
      rw [List.filter_cons_of_pos hpa, hnone, List.length_singleton]
    · have hpx : ¬ p x = true := fun h => hx a hmem h hpa
      rw [List.filter_cons_of_neg hpx]
      exact ih hmem hxs

open Laws.TableRow in
/-- The row of an operation matches its encoding, row by row of the table. -/
theorem row_selects_encode : ∀ i : Instr, Statement i
  | .srdLF9 off => srdLF9 off
  | .srdLFAFB win off => srdLFAFB win off
  | .srdB0F9 => srdB0F9
  | .srdB0FAFB win => srdB0FAFB win
  | .srdB1F9 => srdB1F9
  | .srdB1FAFB win => srdB1FAFB win
  | .srdB2F9 => srdB2F9
  | .srdB2FAFB win => srdB2FAFB win
  | .srdB3F9 => srdB3F9
  | .srdB3FAFB win => srdB3FAFB win
  | .srdW0F9 => srdW0F9
  | .srdW0FAFB win => srdW0FAFB win
  | .srdW2F9 => srdW2F9
  | .srdW2FAFB win => srdW2FAFB win
  | .srdWXF9 off => srdWXF9 off
  | .srdWXFAFB win off => srdWXFAFB win off
  | .srdT0F9 => srdT0F9
  | .srdT0FAFB win => srdT0FAFB win
  | .srdTX1F9 off => srdTX1F9 off
  | .srdTX1FAFB win off => srdTX1FAFB win off
  | .srdTX2F9 => srdTX2F9
  | .srdTX2FAFB win => srdTX2FAFB win
  | .swrLF9 off => swrLF9 off
  | .swrLFAFB win off => swrLFAFB win off
  | .swrB0F9 => swrB0F9
  | .swrB0FAFB win => swrB0FAFB win
  | .swrB1F9 => swrB1F9
  | .swrB1FAFB win => swrB1FAFB win
  | .swrB2F9 => swrB2F9
  | .swrB2FAFB win => swrB2FAFB win
  | .swrB3F9 => swrB3F9
  | .swrB3FAFB win => swrB3FAFB win
  | .swrW0F9 => swrW0F9
  | .swrW0FAFB win => swrW0FAFB win
  | .swrW2F9 => swrW2F9
  | .swrW2FAFB win => swrW2FAFB win
  | .swrWXF9 off => swrWXF9 off
  | .swrWXFAFB win off => swrWXFAFB win off
  | .swrT0F9 => swrT0F9
  | .swrT0FAFB win => swrT0FAFB win
  | .swrTX1F9 off => swrTX1F9 off
  | .swrTX1FAFB win off => swrTX1FAFB win off
  | .swrTX2F9 => swrTX2F9
  | .swrTX2FAFB win => swrTX2FAFB win
  | .dmaRd => dmaRd
  | .dmaWr => dmaWr

theorem row_mem_sd13Rows {i : Instr} (h : Claims.isSlave i = true) : i.row ∈ sd13Rows := by
  cases i
  case dmaRd | dmaWr => cases h
  all_goals simp [Instr.row, sd13Rows]

/-! ### The window field of a row -/

/-- A row fixes the window 0xF9, or the upper seven bits that 0xFA and 0xFB share (R115). -/
theorem sd13Rows_window : ∀ r ∈ sd13Rows,
    (r.mask >>> 5 = 0xFF ∧ r.value >>> 5 = 0xF9) ∨ (r.mask >>> 5 = 0xFE ∧ r.value >>> 5 = 0xFA) := by
  decide

theorem sd13Win_toNat (w : BitVec 13) : (sd13Win w).toNat = w.toNat >>> 5 := by
  have hw : w.toNat >>> 5 < 2 ^ 8 := by
    rw [Nat.shiftRight_eq_div_pow]
    omega
  rw [sd13Win, BitVec.extractLsb'_toNat, Nat.mod_eq_of_lt hw]

theorem eq_F9_of_and_FF : ∀ win : Win, win.toNat &&& 0xFF = 0xF9 → win ∈ Config.slotIds := by decide
theorem eq_FAFB_of_and_FE : ∀ win : Win, win.toNat &&& 0xFE = 0xFA → win ∈ Config.slotIds := by decide

/-- A row matches descriptors of the device's windows only. -/
theorem selected_of_selects {r : TableRow} (hr : r ∈ sd13Rows) {w : BitVec 13} (h : r.selects (.sd13 w) = true) :
    sd13Win w ∈ Config.slotIds := by
  have hwin : (sd13Win w).toNat &&& (r.mask >>> 5) = r.value >>> 5 := by
    rw [sd13Win_toNat, ← Nat.shiftRight_and_distrib, ← mask_of_selects h]
    rfl
  obtain ⟨hmask, hvalue⟩ | ⟨hmask, hvalue⟩ := sd13Rows_window r hr
  · exact eq_F9_of_and_FF _ (by rwa [hmask, hvalue] at hwin)
  · exact eq_FAFB_of_and_FE _ (by rwa [hmask, hvalue] at hwin)

/-- Settles O3. The row of the decoded operation matches, since it matches that operation's encoding; no other row does,
since any two rows conflict; and a row matches nothing outside the windows. -/
theorem rowsCoverSelectedDescriptorsOnce : Obligations.RowsCoverSelectedDescriptorsOnce := by
  intro w
  refine ⟨fun hsel => ?_, fun hunsel => ⟨?_, decodeSD13_of_not_selected hunsel⟩⟩
  · have hdec := decodeSD13_of_selected hsel
    obtain ⟨henc, hwf⟩ := encode_of_decodeSD13 hdec
    have hmem := row_mem_sd13Rows (by rw [Claims.isSlave, henc]; rfl)
    have hrow := row_selects_encode _ hwf
    rw [henc] at hrow
    exact ⟨length_filter_eq_one hmem hrow (sd13Rows_conflict.imp not_selects_of_rowsConflict), _, hdec, hmem, hrow⟩
  · rw [List.filter_eq_nil_iff]
    exact fun r hr hrow => hunsel (selected_of_selects hr hrow)

/-! ## The `DD3` map and the written words -/

theorem decodeDD3_no_request {w : BitVec 3} (h : (dd3Cyc w && dd3Stb w) = false) :
    decodeDD3 w = .rejected .noRequest := by
  simp [decodeDD3, h]

/-- Settles O4: the two patterns with both bits set are the operations, and a clear bit is no request. -/
theorem dmaDescriptorMap : Obligations.DmaDescriptorMap := by
  refine ⟨by decide, by decide, fun w hclear => ?_⟩
  exact decodeDD3_no_request (Bool.and_eq_false_iff.2 hclear)

/-- Settles O5: each word is the encoding of the operation named for it, so O1 gives it back. -/
theorem writtenWordsDecode : Obligations.WrittenWordsDecode :=
  ⟨decodeEncodeRoundTrip .srdB0F9 (by decide), decodeEncodeRoundTrip (.swrLFAFB 0xFA#8 0b00#2) (by decide),
    decodeEncodeRoundTrip (.srdW2FAFB 0xFB#8) (by decide), decodeEncodeRoundTrip .swrW0F9 (by decide),
    decodeEncodeRoundTrip (.srdTX1FAFB 0xFB#8 0b11#2) (by decide), decodeEncodeRoundTrip .dmaRd (by decide)⟩

/-- Settles O6: the step and the operation are both the tick of the component rules, and O2 gives the well-formedness. -/
theorem stepRunsSampledSlaveOperation : Obligations.StepRunsSampledSlaveOperation := by
  intro s i _ _ hdec
  obtain ⟨-, hwf⟩ := encode_of_decodeSD13 hdec
  exact ⟨by rw [step_eq_tick, exec_sampled_sd13 hdec], hwf⟩

end Sys2Proof.Machine

/-! What a tick makes of its inputs: an operation it does not start (log 10), the dma lane select (R263), the synchronizer
stages (R140, R144), and the wires the two sides' drives resolve to (R281). -/

namespace Sys2Proof.Machine

/-! ## An operation the tick does not start -/

/-- Settles O16: an operation that starts nothing takes the state rules, and so does its component in the tick. -/
theorem unsampledOperationFollowsStateRules : Obligations.UnsampledOperationFollowsStateRules := by
  intro i s
  obtain ⟨hslave, read, mask, hexec⟩ | ⟨hdma, we, hexec⟩ := exec_eq_operation i
  · refine ⟨fun _ hstart => ?_, fun h => by simp [hslave] at h⟩
    rw [hexec, slaveOperation_continue _ _ _ hstart, tick, slaveNext_continue s hstart]
  · refine ⟨fun h => by simp [hdma] at h, fun _ hstart => ?_⟩
    rw [hexec, dmaOperation_continue _ _ hstart, tick, masterNext_continue s hstart]

/-! ## The dma lane select -/

/-- The same tick with another `dma_sel_i`. -/
def State.withDmaSel (s : State) (m : LaneMask) : State := { s with inputs := { s.inputs with dmaSel := m } }

section
variable (s : State) (m : LaneMask)

theorem withDmaSel_syncNext : syncNext (s.withDmaSel m) = syncNext s := rfl
theorem withDmaSel_slaveNext : slaveNext (s.withDmaSel m) = slaveNext s := rfl
theorem withDmaSel_arbNext : arbNext (s.withDmaSel m) = arbNext s := rfl
theorem withDmaSel_masterNext : masterNext (s.withDmaSel m) = masterNext s := rfl
theorem withDmaSel_faultsNext : faultsNext (s.withDmaSel m) = faultsNext s := rfl
theorem withDmaSel_rst : (s.withDmaSel m).inputs.rst = s.inputs.rst := rfl

end

/-- Settles O39: no component's rule reads the lane select. -/
theorem dmaLaneSelectIgnored : Obligations.DmaLaneSelectIgnored := by
  intro s m
  refine ⟨tick s, tick (s.withDmaSel m), step_eq_tick s, step_eq_tick (s.withDmaSel m),
    withDmaSel_syncNext s m, ?_, ?_, ?_, withDmaSel_faultsNext s m⟩
  · rw [tick_slave, tick_slave, withDmaSel_slaveNext, withDmaSel_rst]
  · rw [tick_A, tick_A, withDmaSel_arbNext, withDmaSel_rst]
  · rw [tick_master, tick_master, withDmaSel_masterNext, withDmaSel_rst]

/-! ## The synchronizer -/

/-- Under the draw that samples every change at once, the sample is the wire (R121). -/
theorem sampled_of_promptDraw {s : State} (h : s.inputs.late = some promptDraw) : sampled s = wires s := by
  rw [sampled, lateOf, h, Option.getD_some, sampleLines_prompt]

/-- Settles O44: each register of the bank takes what stands before it. -/
theorem synchronizerStages : Obligations.SynchronizerStages := by
  intro s
  refine ⟨tick s, step_eq_tick s, ?_, ?_, fun hdraw => ?_⟩
  · rw [tick_sync, syncNext_s2]
  · rw [tick_sync, syncNext_asPrev]
  · rw [tick_sync, syncNext_s1, sampled_of_promptDraw hdraw]

/-! ## Wire resolution -/

section
variable {α : Type} {oe : Bool} {env : Option α} (v idle drawn : α)

theorem resolveTri_of_block (hoe : oe = true) (henv : env = none) : resolveTri oe v env idle drawn = v := by
  rw [hoe, henv, resolveTri_block]

theorem resolveTri_of_env {x : α} (hoe : oe = false) (henv : env = some x) : resolveTri oe v env idle drawn = x := by
  rw [hoe, henv, resolveTri_env]

theorem resolveTri_of_undriven (hoe : oe = false) (henv : env = none) : resolveTri oe v env idle drawn = idle := by
  rw [hoe, henv, resolveTri_undriven]

end

/-- A wired-AND line whose block side drives 0 when it drives (R281). -/
theorem resolveAnd_eq_false_iff (oe env : Bool) : resolveAnd oe false env = false ↔ oe = true ∨ env = false := by
  cases oe <;> cases env <;> decide

theorem getLsbD_resolveAck (oe : Bool) (v env : DsackLines) (k : Nat) :
    (resolveAck oe v env).getLsbD k = true ↔ (oe = false ∨ v.getLsbD k = true) ∧ env.getLsbD k = true := by
  cases oe <;> simp [resolveAck]

/-- Settles O55: each line by the rule of its kind, tri-state, wired-AND or the environment's alone. -/
theorem wireResolution : Obligations.WireResolution := by
  intro s
  refine ⟨?a_block, ?a_env, ?d_block, ?d_env, ?ctl_block, ?ctl_env, ?dsack, ?bgack, rfl, ?br⟩
  case a_block | d_block => exact fun hoe henv => resolveTri_of_block _ _ _ hoe henv
  case a_env | d_env => exact fun v hoe henv => resolveTri_of_env _ _ _ hoe henv
  case ctl_block =>
    intro hoe
    refine ⟨?_, ?_, ?_, ?_⟩ <;> exact fun henv => resolveTri_of_block _ _ _ hoe henv
  case ctl_env =>
    intro hoe
    refine ⟨?as_env, ?ds_env, ?rw_env, ?siz_env, ?as_pulled, ?ds_pulled, ?rw_pulled⟩
    case as_env | ds_env | rw_env | siz_env => exact fun v henv => resolveTri_of_env _ _ _ hoe henv
    case as_pulled | ds_pulled | rw_pulled => exact fun henv => resolveTri_of_undriven _ _ _ hoe henv
  case dsack => exact getLsbD_resolveAck _ _ _
  case bgack => exact resolveAnd_eq_false_iff _ _
  case br => exact resolveAnd_eq_false_iff _ _

end Sys2Proof.Machine

/-! The Synchronizer Bank: what a sample may hold (R146, R147), the latency of a wire (R143), what the state machines read
(R142), and the strobe's edge (R145). -/

namespace Sys2Proof.Machine

open Claims

/-! ## A sample, bit by bit -/

theorem getLsbD_sampleVec {w : Nat} (l o n : BitVec w) (k : Nat) :
    (sampleVec l o n).getLsbD k = sampleBit (l.getLsbD k) (o.getLsbD k) (n.getLsbD k) := by
  rw [sampleVec_eq, BitVec.getLsbD_or, BitVec.getLsbD_and, BitVec.getLsbD_and, BitVec.getLsbD_not]
  by_cases hk : k < w
  · rw [decide_eq_true hk]
    cases l.getLsbD k <;> cases o.getLsbD k <;> cases n.getLsbD k <;> decide
  · have hout (x : BitVec w) : x.getLsbD k = false := BitVec.getLsbD_of_ge x k (Nat.le_of_not_lt hk)
    rw [hout l, hout o, hout n]
    rfl

theorem oldOrNew_sampleVec {w : Nat} (l o n : BitVec w) : oldOrNew (sampleVec l o n) o n := by
  intro k
  rw [getLsbD_sampleVec]
  exact sampleBit_cases _ _ _

/-- A bit is drawn late where the level wanted is not the new one. -/
theorem sampleBit_xor {x o n : Bool} (h : x = o ∨ x = n) : sampleBit (x ^^ n) o n = x := by
  obtain rfl | rfl := h
  · cases x <;> cases n <;> rfl
  · rw [Bool.xor_self, sampleBit_prompt]

theorem sampleVec_xor {w : Nat} {x o n : BitVec w} (h : oldOrNew x o n) : sampleVec (x ^^^ n) o n = x := by
  refine BitVec.eq_of_getLsbD_eq fun k _ => ?_
  rw [getLsbD_sampleVec, BitVec.getLsbD_xor]
  exact sampleBit_xor (h k)

/-! ## A sample of all nine groups -/

/-- Each bit of `x`, in every group, is that of `o` or that of `n` (R146, R147). -/
def linesOldOrNew (x o n : Lines) : Prop :=
  oldOrNew x.a o.a n.a ∧ oldOrNew x.d o.d n.d ∧ oldOrNew x.siz o.siz n.siz ∧ oldOrNew x.dsackN o.dsackN n.dsackN ∧
    (x.asN = o.asN ∨ x.asN = n.asN) ∧ (x.dsN = o.dsN ∨ x.dsN = n.dsN) ∧ (x.rw = o.rw ∨ x.rw = n.rw) ∧
    (x.bgN = o.bgN ∨ x.bgN = n.bgN) ∧ (x.bgackN = o.bgackN ∨ x.bgackN = n.bgackN)

/-- The draw that samples `x` where the new wires are `n`: late in the bits where the two differ. -/
def drawFor (x n : Lines) : Lines :=
  { a := x.a ^^^ n.a, d := x.d ^^^ n.d, asN := x.asN ^^ n.asN, dsN := x.dsN ^^ n.dsN, rw := x.rw ^^ n.rw,
    siz := x.siz ^^^ n.siz, dsackN := x.dsackN ^^^ n.dsackN, bgN := x.bgN ^^ n.bgN, bgackN := x.bgackN ^^ n.bgackN }

theorem linesOldOrNew_sampleLines (l o n : Lines) : linesOldOrNew (sampleLines l o n) o n :=
  ⟨oldOrNew_sampleVec _ _ _, oldOrNew_sampleVec _ _ _, oldOrNew_sampleVec _ _ _, oldOrNew_sampleVec _ _ _,
    sampleBit_cases _ _ _, sampleBit_cases _ _ _, sampleBit_cases _ _ _, sampleBit_cases _ _ _, sampleBit_cases _ _ _⟩

theorem sampleLines_drawFor {x o n : Lines} (h : linesOldOrNew x o n) : sampleLines (drawFor x n) o n = x := by
  obtain ⟨ha, hd, hsiz, hdsack, has, hds, hrw, hbg, hbgack⟩ := h
  simp only [sampleLines, drawFor, sampleVec_xor ha, sampleVec_xor hd, sampleVec_xor hsiz, sampleVec_xor hdsack,
    sampleBit_xor has, sampleBit_xor hds, sampleBit_xor hrw, sampleBit_xor hbg, sampleBit_xor hbgack]

/-- The same tick with the draw pinned to `l`. -/
def State.withLate (s : State) (l : Lines) : State := { s with inputs := { s.inputs with late := some l } }

/-- The draw chooses between the levels; it changes neither of them. -/
theorem sampled_withLate (s : State) (l : Lines) : sampled (s.withLate l) = sampleLines l s.lastWire (wires s) := rfl

/-- Settles O45: stage 1 takes the sample of the tick, and a sample is bit by bit one of the two levels. -/
theorem sampleIsOldOrNewLevel : Obligations.SampleIsOldOrNewLevel := by
  intro s t hstep
  obtain rfl := eq_tick_of_step hstep
  exact ⟨rfl, linesOldOrNew_sampleLines (lateOf s) s.lastWire (wires s)⟩

/-- Settles O46: the draw that is late exactly where the sample wanted is not the new wire. -/
theorem everySampleIsAdmitted : Obligations.EverySampleIsAdmitted := by
  intro s x ha hd hsiz hdsack has hds hrw hbg hbgack
  refine ⟨drawFor x (wires s), tick (s.withLate (drawFor x (wires s))), step_eq_tick _, ?_⟩
  rw [tick_sync, syncNext_s1, sampled_withLate]
  exact sampleLines_drawFor ⟨ha, hd, hsiz, hdsack, has, hds, hrw, hbg, hbgack⟩

/-! ## The way of a sample through the bank -/

section
variable {s t : State}

theorem s1_of_step (h : step s = .next t) : t.sync.s1 = sampled s := by
  rw [eq_tick_of_step h, tick_sync, syncNext_s1]

theorem s2_of_step (h : step s = .next t) : t.sync.s2 = s.sync.s1 := by
  rw [eq_tick_of_step h, tick_sync, syncNext_s2]

theorem asPrev_of_step (h : step s = .next t) : t.sync.asPrev = s.sync.s2.asN := by
  rw [eq_tick_of_step h, tick_sync, syncNext_asPrev]

end

/-- Settles O47: the prompt sample is the wire, and each tick moves it on by one register. -/
theorem wireSeenTwoTicksLater : Obligations.WireSeenTwoTicksLater := by
  intro s t u hdraw hst htu
  have hseen : u.sync.s2 = wires s := by rw [s2_of_step htu, s1_of_step hst, sampled_of_promptDraw hdraw]
  refine ⟨s2_of_step hst, hseen, fun v huv => ?_⟩
  rw [asPrev_of_step huv, hseen]

/-! ## What the state machines read -/

/-- The state `u` with everything a rule of the state machines may read (R48, R142) taken from `s`. -/
def State.viewOver (s u : State) : State :=
  { u with
    sync := { s1 := u.sync.s1, s2 := s.sync.s2, asPrev := s.sync.asPrev }
    slave := s.slave
    A := s.A
    master := s.master
    inputs := { u.inputs with
                rst := s.inputs.rst, srdAck := s.inputs.srdAck, srdDat := s.inputs.srdDat, swrAck := s.inputs.swrAck,
                dmaCyc := s.inputs.dmaCyc, dmaStb := s.inputs.dmaStb, dmaWe := s.inputs.dmaWe,
                dmaAdr := s.inputs.dmaAdr, dmaDat := s.inputs.dmaDat } }

theorem viewOver_of_sameView {s u : State} (h : sameView s u) : s.viewOver u = u := by
  obtain ⟨hs2, hprev, hslave, hA, hmaster, hrst, hsrdAck, hsrdDat, hswrAck, hcyc, hstb, hwe, hadr, hdat⟩ := h
  rw [State.viewOver, hs2, hprev, hslave, hA, hmaster, hrst, hsrdAck, hsrdDat, hswrAck, hcyc, hstb, hwe, hadr, hdat]

section
variable (s u : State)

theorem slaveNext_viewOver : slaveNext (s.viewOver u) = slaveNext s := rfl
theorem arbNext_viewOver : arbNext (s.viewOver u) = arbNext s := rfl
theorem masterNext_viewOver : masterNext (s.viewOver u) = masterNext s := rfl
theorem rst_viewOver : (s.viewOver u).inputs.rst = s.inputs.rst := rfl
theorem s2_viewOver : (s.viewOver u).sync.s2 = s.sync.s2 := rfl

end

/-- Settles O48: a state of the same view differs only in what no rule of the machines reads. -/
theorem rawLinesIsolated : Obligations.RawLinesIsolated := by
  intro s s' t t' hview hst hst'
  obtain rfl := eq_tick_of_step hst
  obtain rfl := eq_tick_of_step hst'
  rw [← viewOver_of_sameView hview]
  refine ⟨?_, ?_, ?_, ?_⟩
  · rw [tick_slave, tick_slave, slaveNext_viewOver, rst_viewOver]
  · rw [tick_A, tick_A, arbNext_viewOver, rst_viewOver]
  · rw [tick_master, tick_master, masterNext_viewOver, rst_viewOver]
  · rw [tick_sync, tick_sync, syncNext_asPrev, syncNext_asPrev, s2_viewOver]

/-! ## The falling edge -/

/-- After a step the edge register holds the strobe of the stage 2 before, so `fall` compares the two (R145). -/
theorem fall_iff_of_step {s t : State} (h : step s = .next t) :
    fall t = true ↔ s.sync.s2.asN = true ∧ t.sync.s2.asN = false := by
  rw [fall_iff, asPrev_of_step h]

/-- Settles O49: a fall leaves the strobe asserted, and the next fall would need it negated. -/
theorem fallLastsOneTick : Obligations.FallLastsOneTick := by
  intro s t hstep
  refine ⟨fall_iff s, fall_iff_of_step hstep, fun hfall => ?_⟩
  obtain ⟨-, hasserted⟩ := (fall_iff s).1 hfall
  rw [Bool.eq_false_iff]
  intro hagain
  obtain ⟨hnegated, -⟩ := (fall_iff_of_step hstep).1 hagain
  exact Bool.false_ne_true (hasserted.symm.trans hnegated)

end Sys2Proof.Machine

/-! The Address/Size Decoder: the selection predicate (R160) and the lane mask of a size and an offset (R161). -/

namespace Sys2Proof.Machine

/-! ## Selection -/

/-- Settles O50: the window identifier is bits [31:24] of the address, and `SLOT_IDS` has just these three members. -/
theorem selectionPredicate : Obligations.SelectionPredicate := by
  intro s
  rw [sel_iff, mem_slotIds_iff, winInFAFB_iff, winOf]

/-! ## The lane mask, one equation per size code -/

section
variable (off : BitVec 2)

theorem lane_long : lane 0b00#2 off = 0b1111#4 := rfl

theorem lane_byte : lane 0b01#2 off = 0b1000#4 >>> off.toNat := rfl

theorem lane_word :
    lane 0b10#2 off = if off = 0b00#2 then 0b1100#4 else if off = 0b10#2 then 0b0011#4 else 0b1111#4 := rfl

theorem lane_threeByte : lane 0b11#2 off = if off = 0b00#2 then 0b1110#4 else 0b1111#4 := rfl

end

/-- Settles O51: a long takes every lane, a byte one, and the other two sizes fall back to every lane when misaligned. -/
theorem laneMaskTable : Obligations.LaneMaskTable :=
  ⟨lane_long, lane_byte 0b00#2, lane_byte 0b01#2, lane_byte 0b10#2, lane_byte 0b11#2,
    lane_word 0b00#2, lane_word 0b10#2, lane_word 0b01#2, lane_word 0b11#2,
    lane_threeByte 0b00#2, lane_threeByte 0b01#2, lane_threeByte 0b10#2, lane_threeByte 0b11#2⟩

end Sys2Proof.Machine

/-! The Slave Responder (42_slave_responder.md): what a cycle start latches, what each state does in a tick, the external
abort, the outputs, and the two sequences of R199 over a run. -/

namespace Sys2Proof.Machine

open Claims

/-! ## The operations at the tick that starts a cycle -/

/-- The registers a cycle start leaves, as the model's rule and as the statements write them (R183, R184). -/
theorem slaveBegin_eq_slaveStarted (read : Bool) (mask : LaneMask) (s : State) :
    slaveBegin read mask s = slaveStarted s read mask := rfl

/-- Without a reset a slave operation at a cycle start is the tick with its own direction and mask latched. -/
theorem slaveOperation_at_start {s : State} (hstart : start s = true) (hrst : s.inputs.rst = false)
    (read : Bool) (mask : LaneMask) :
    slaveOperation read mask s = .next { tick s with slave := slaveStarted s read mask } := by
  rw [slaveOperation_start read mask s hstart, slaveBegin_eq_slaveStarted, tick, tickWith, tickWith, hrst,
    resetSlave_false]

/-- Settles O10: each operation is `slaveOperation` of its row's mask (R200 to R210). -/
theorem slaveReadF9OperationsStart : Obligations.SlaveReadF9OperationsStart := by
  intro s off hstart hrst
  have latches := slaveOperation_at_start hstart hrst true
  exact ⟨latches 0b1111#4, latches 0b1000#4, latches 0b0100#4, latches 0b0010#4, latches 0b0001#4, latches 0b1100#4,
    latches 0b0011#4, latches 0b1111#4, latches 0b1110#4, latches 0b1111#4, latches 0b1111#4⟩

/-- Settles O11: as O10, the window being read from the address and not from the operation (R83). -/
theorem slaveReadFAFBOperationsStart : Obligations.SlaveReadFAFBOperationsStart :=
  fun s _win off => slaveReadF9OperationsStart s off

/-- Settles O12: each operation is `slaveOperation` of its row's mask (R211 to R221). -/
theorem slaveWriteF9OperationsStart : Obligations.SlaveWriteF9OperationsStart := by
  intro s off hstart hrst
  have latches := slaveOperation_at_start hstart hrst false
  exact ⟨latches 0b1111#4, latches 0b1000#4, latches 0b0100#4, latches 0b0010#4, latches 0b0001#4, latches 0b1100#4,
    latches 0b0011#4, latches 0b1111#4, latches 0b1110#4, latches 0b1111#4, latches 0b1111#4⟩

/-- Settles O13: as O12, the window being read from the address and not from the operation (R83). -/
theorem slaveWriteFAFBOperationsStart : Obligations.SlaveWriteFAFBOperationsStart :=
  fun s _win off => slaveWriteF9OperationsStart s off

/-! ## The outputs of the Slave Responder -/

@[simp] theorem out_srdAdrO (s : State) : (out s).srdAdrO = s.slave.ctxAdr := rfl
@[simp] theorem out_srdSelO (s : State) : (out s).srdSelO = s.slave.ctxMask := rfl
@[simp] theorem out_swrAdrO (s : State) : (out s).swrAdrO = s.slave.ctxAdr := rfl
@[simp] theorem out_swrSelO (s : State) : (out s).swrSelO = s.slave.ctxMask := rfl
@[simp] theorem out_swrWeO (s : State) : (out s).swrWeO = true := rfl
@[simp] theorem out_swrDatO (s : State) : (out s).swrDatO = s.sync.s2.d := rfl

/-- Settles O25: the requests and the acknowledge drive test `S`, the others are the context or constants. -/
theorem slaveOutputs : Obligations.SlaveOutputs := fun s =>
  ⟨srdCycO_iff s, rfl, rfl, out_srdAdrO s, out_srdSelO s, swrCycO_iff s, rfl, out_swrWeO s, out_swrAdrO s,
    out_swrSelO s, out_swrDatO s, dsackOe_iff s, rfl⟩

section
variable {s : State}

theorem srdCycO_eq_false (h : s.slave.S ≠ .readRequest) : (out s).srdCycO = false := by
  rwa [Bool.eq_false_iff, ne_eq, srdCycO_iff]

theorem swrCycO_eq_false (h : s.slave.S ≠ .writeRequest) : (out s).swrCycO = false := by
  rwa [Bool.eq_false_iff, ne_eq, swrCycO_iff]

theorem dsackOe_eq_sAck : (out s).dsackOe = sAck s.slave := rfl

/-- An idle Slave Responder acknowledges nothing and requests nothing (R194 to R196). -/
theorem out_of_slave_idle (h : s.slave.S = .idle) :
    (out s).dsackOe = false ∧ (out s).srdCycO = false ∧ (out s).swrCycO = false :=
  ⟨sAck_of_idle h, srdCycO_eq_false (by simp [h]), swrCycO_eq_false (by simp [h])⟩

/-- In `READ_DRIVE` the data lines are driven, with `rdata` unless the Master Engine drives them too (R197, R273). -/
theorem out_data_of_readDrive (h : s.slave.S = .readDrive) :
    (out s).dOe = true ∧ (contention s = false → (out s).dO = s.slave.rdata) := by
  have hdrive : sDrive s.slave = true := by simp [sDrive, h]
  refine ⟨by simp [out, outOf, hdrive], fun hfree => ?_⟩
  have hmaster : mDrive s.master = false := by simpa [contention, hdrive] using hfree
  simp [out, outOf, hdrive, hmaster]

end

/-! ## One tick of the Slave Responder, state by state -/

/-- The Slave Responder after a start of the cycle that stage 2 shows: its direction, its address, its mask (R183, R184). -/
def cycleStarted (s : State) : SlaveRegs :=
  slaveBegin s.sync.s2.rw (lane s.sync.s2.siz (offOf s.sync.s2.a)) s

section
variable {s : State}

theorem cycleStarted_S : (cycleStarted s).S = if s.sync.s2.rw then .readRequest else .writeWaitData := rfl
theorem cycleStarted_ctxAdr : (cycleStarted s).ctxAdr = wordAddr s.sync.s2.a := rfl
theorem cycleStarted_ctxMask : (cycleStarted s).ctxMask = lane s.sync.s2.siz (offOf s.sync.s2.a) := rfl

theorem slaveContinue_writeWaitData (h : s.slave.S = .writeWaitData) :
    slaveContinue s = if withdrawn s then slaveAbort s.slave
      else if s.sync.s2.dsN then s.slave else { s.slave with S := .writeRequest } := by
  simp [slaveContinue, h]

/-- `READ_DRIVE` and `WRITE_ACK`, the states that acknowledge, wait for the strobe alone (R188, R191). -/
theorem slaveContinue_of_sAck (h : sAck s.slave = true) :
    slaveContinue s = if withdrawn s then slaveAbort s.slave else s.slave := by
  obtain hS | hS := (dsackOe_iff s).1 h <;> simp [slaveContinue, hS]

theorem tick_slave_of_start (hrst : s.inputs.rst = false) (hstart : start s = true) :
    (tick s).slave = cycleStarted s := by
  rw [tick_slave, hrst, resetSlave_false, slaveNext_start s hstart, cycleStarted]

theorem tick_slave_of_busy (hrst : s.inputs.rst = false) (hbusy : s.slave.S ≠ .idle) :
    (tick s).slave = slaveContinue s := by
  rw [tick_slave, hrst, resetSlave_false, slaveNext_continue s (start_false_of_busy s hbusy)]

/-- A withdrawn strobe ends an open cycle, reset or not (R192). -/
theorem tick_slave_of_withdrawn (hbusy : s.slave.S ≠ .idle) (hw : withdrawn s = true) :
    (tick s).slave = slaveAbort s.slave := by
  rw [tick_slave, slaveNext_continue s (start_false_of_busy s hbusy), slaveContinue_withdrawn s hbusy hw,
    resetSlave_of_idle (slaveAbort_S _)]

theorem tick_slave_readRequest (hrst : s.inputs.rst = false) (hS : s.slave.S = .readRequest) :
    (tick s).slave = if withdrawn s then slaveAbort s.slave
      else if s.inputs.srdAck then { s.slave with S := .readDrive, rdata := s.inputs.srdDat } else s.slave := by
  rw [tick_slave_of_busy hrst (by simp [hS]), slaveContinue_readRequest hS]

theorem tick_slave_writeWaitData (hrst : s.inputs.rst = false) (hS : s.slave.S = .writeWaitData) :
    (tick s).slave = if withdrawn s then slaveAbort s.slave
      else if s.sync.s2.dsN then s.slave else { s.slave with S := .writeRequest } := by
  rw [tick_slave_of_busy hrst (by simp [hS]), slaveContinue_writeWaitData hS]

theorem tick_slave_writeRequest (hrst : s.inputs.rst = false) (hS : s.slave.S = .writeRequest) :
    (tick s).slave = if withdrawn s then slaveAbort s.slave
      else if s.inputs.swrAck then { s.slave with S := .writeAck } else s.slave := by
  rw [tick_slave_of_busy hrst (by simp [hS]), slaveContinue_writeRequest hS]

theorem busy_of_sAck (h : sAck s.slave = true) : s.slave.S ≠ .idle := by
  obtain hS | hS := (dsackOe_iff s).1 h <;> simp [hS]

theorem tick_slave_of_sAck (hrst : s.inputs.rst = false) (h : sAck s.slave = true) :
    (tick s).slave = if withdrawn s then slaveAbort s.slave else s.slave := by
  rw [tick_slave_of_busy hrst (busy_of_sAck h), slaveContinue_of_sAck h]

end

/-! ## The transitions -/

/-- Settles O17: the three conditions are those of a cycle start (R182), and without one an idle responder stays. -/
theorem slaveIdleTransition : Obligations.SlaveIdleTransition := by
  intro s hS hrst
  refine ⟨tick s, step_eq_tick s, ?_⟩
  have hcond : (s.sync.asPrev = true ∧ s.sync.s2.asN = false ∧ winOf s.sync.s2.a ∈ Config.slotIds) ↔
      start s = true := by simp [start_iff, fall_iff, sel_iff, hS, and_assoc]
  simp only [hcond]
  cases hstart : start s with
  | true => rw [if_pos rfl, tick_slave_of_start hrst hstart, cycleStarted_S]
  | false => rw [if_neg Bool.false_ne_true, tick_slave_of_idle_not_start hS hstart, hS]

/-- Settles O19: the acknowledge is looked at only where the strobe is not withdrawn. -/
theorem readRequestTransition : Obligations.ReadRequestTransition :=
  fun s hS hrst => ⟨tick s, step_eq_tick s, tick_slave_readRequest hrst hS⟩

/-- Settles O21: one rule for the two acknowledging states, one each for the two others. -/
theorem slaveWaitTransitions : Obligations.SlaveWaitTransitions := by
  intro s hrst
  refine ⟨tick s, step_eq_tick s, fun hS => ?_, fun hS => ?_, fun hS => ?_, fun hS => ?_⟩
  · exact tick_slave_of_sAck hrst ((dsackOe_iff s).2 (.inl hS))
  · rw [tick_slave_writeWaitData hrst hS]
    cases s.sync.s2.dsN <;> rfl
  · exact tick_slave_writeRequest hrst hS
  · exact tick_slave_of_sAck hrst ((dsackOe_iff s).2 (.inr hS))

/-! ## What writes the context and the read data -/

/-- The rules of an open cycle move `S` and latch `rdata`; none writes the context (R184). -/
theorem slaveContinue_context (s : State) :
    (slaveContinue s).ctxAdr = s.slave.ctxAdr ∧ (slaveContinue s).ctxDir = s.slave.ctxDir ∧
      (slaveContinue s).ctxMask = s.slave.ctxMask := by
  obtain h | ⟨-, -, h⟩ | ⟨-, -, -, h⟩ | ⟨-, -, -, h⟩ | ⟨-, -, -, h⟩ := slaveContinue_cases s
  all_goals
    rw [h]
    exact ⟨rfl, rfl, rfl⟩

/-- Settles O18: a cycle start latches the context, every other tick keeps it, and a reset edge does not touch it. -/
theorem slaveContextWrittenOnlyAtStart : Obligations.SlaveContextWrittenOnlyAtStart := by
  intro s t hstep
  rw [eq_tick_of_step hstep, tick_slave, resetSlave_ctxAdr, resetSlave_ctxDir, resetSlave_ctxMask]
  refine ⟨fun hstart => ?_, fun hstart => ?_⟩
  · rw [slaveNext_start s hstart]
    exact ⟨rfl, rfl, rfl⟩
  · rw [slaveNext_continue s hstart]
    exact slaveContinue_context s

/-- Of the rules of an open cycle only the acknowledged read writes `rdata` (R187). -/
theorem slaveContinue_rdata (s : State) :
    (slaveContinue s).rdata =
      if s.slave.S = .readRequest ∧ s.sync.s2.asN = false ∧ s.inputs.srdAck = true then s.inputs.srdDat
      else s.slave.rdata := by
  by_cases hS : s.slave.S = .readRequest
  · rw [slaveContinue_readRequest hS, withdrawn]
    cases s.sync.s2.asN <;> cases s.inputs.srdAck <;> simp [hS]
  · rw [if_neg fun h => hS h.1]
    obtain h | ⟨-, -, h⟩ | ⟨hread, -⟩ | ⟨-, -, -, h⟩ | ⟨-, -, -, h⟩ := slaveContinue_cases s
    case inr.inr.inl => exact absurd hread hS
    all_goals simp only [h, slaveAbort_rdata]

/-- Settles O20: a cycle start and a reset edge leave `rdata` to the rules of an open cycle. -/
theorem readDataWrittenOnlyOnAcknowledge : Obligations.ReadDataWrittenOnlyOnAcknowledge := by
  intro s t hstep
  rw [eq_tick_of_step hstep, tick_slave, resetSlave_rdata]
  cases hstart : start s with
  | false => rw [slaveNext_continue s hstart, slaveContinue_rdata]
  | true =>
    obtain ⟨hS, -, -⟩ := (start_iff s).1 hstart
    rw [slaveNext_start s hstart, slaveBegin_rdata, if_neg (by simp [hS])]

end Sys2Proof.Machine

namespace Sys2Proof.Safety

open Sys2Proof.Machine

/-! ## The Slave Responder over a run -/

/-- From tick `a` on and before tick `b` no reset is asserted and the strobe is not withdrawn. -/
def undisturbed (tr : Nat → State) (a b : Nat) : Prop :=
  ∀ k, a ≤ k → k < b → (tr k).inputs.rst = false ∧ withdrawn (tr k) = false

theorem undisturbed.within {tr : Nat → State} {a b a' b' : Nat} (h : undisturbed tr a b) (ha : a ≤ a')
    (hb : b' ≤ b) : undisturbed tr a' b' :=
  fun k hak hkb => h k (ha.trans hak) (hkb.trans_le hb)

section
variable {tr : Nat → State} {a b : Nat} {v : SlaveRegs}

/-- Registers that every tick of a stretch keeps stand through it. -/
theorem slave_holds (htr : isTrace tr) (ha : (tr a).slave = v)
    (hkeep : ∀ k, a ≤ k → k < b → (tr k).slave = v → (tick (tr k)).slave = v) :
    ∀ k, a ≤ k → k ≤ b → (tr k).slave = v := by
  intro k hak
  induction k, hak using Nat.le_induction with
  | base => exact fun _ => ha
  | succ k hak ih =>
    intro hkb
    rw [eq_tick_of_step (htr k)]
    exact hkeep k hak hkb (ih (Nat.le_of_succ_le hkb))

/-- No retry: an idle Slave Responder stays as it is until a cycle starts. -/
theorem idle_until_start (htr : isTrace tr) (ha : (tr a).slave = v) (hv : v.S = .idle)
    (hno : ∀ k, a ≤ k → k < b → start (tr k) = false) : ∀ k, a ≤ k → k ≤ b → (tr k).slave = v := by
  refine slave_holds htr ha fun k hak hkb hk => ?_
  rw [tick_slave_of_idle_not_start (by rw [hk, hv]) (hno k hak hkb), hk]

/-- A read request waits for the internal acknowledge (R185). -/
theorem readRequest_until_acknowledge (htr : isTrace tr) (hopen : undisturbed tr a b) (ha : (tr a).slave = v)
    (hv : v.S = .readRequest) (hnoack : ∀ k, a ≤ k → k < b → (tr k).inputs.srdAck = false) :
    ∀ k, a ≤ k → k ≤ b → (tr k).slave = v := by
  refine slave_holds htr ha fun k hak hkb hk => ?_
  obtain ⟨hrst, hstrobe⟩ := hopen k hak hkb
  rw [tick_slave_readRequest hrst (by rw [hk, hv]), hstrobe, hnoack k hak hkb]
  exact hk

/-- A write waits for the data strobe before it requests (R189). -/
theorem writeWaitData_until_dataStrobe (htr : isTrace tr) (hopen : undisturbed tr a b) (ha : (tr a).slave = v)
    (hv : v.S = .writeWaitData) (hnodata : ∀ k, a ≤ k → k < b → (tr k).sync.s2.dsN = true) :
    ∀ k, a ≤ k → k ≤ b → (tr k).slave = v := by
  refine slave_holds htr ha fun k hak hkb hk => ?_
  obtain ⟨hrst, hstrobe⟩ := hopen k hak hkb
  rw [tick_slave_writeWaitData hrst (by rw [hk, hv]), hstrobe, hnodata k hak hkb]
  exact hk

/-- A write request waits for the internal acknowledge (R190). -/
theorem writeRequest_until_acknowledge (htr : isTrace tr) (hopen : undisturbed tr a b) (ha : (tr a).slave = v)
    (hv : v.S = .writeRequest) (hnoack : ∀ k, a ≤ k → k < b → (tr k).inputs.swrAck = false) :
    ∀ k, a ≤ k → k ≤ b → (tr k).slave = v := by
  refine slave_holds htr ha fun k hak hkb hk => ?_
  obtain ⟨hrst, hstrobe⟩ := hopen k hak hkb
  rw [tick_slave_writeRequest hrst (by rw [hk, hv]), hstrobe, hnoack k hak hkb]
  exact hk

/-- An acknowledged cycle is held until the strobe is withdrawn (R188, R191). -/
theorem acknowledges_until_withdrawal (htr : isTrace tr) (hopen : undisturbed tr a b) (ha : (tr a).slave = v)
    (hv : sAck v = true) : ∀ k, a ≤ k → k ≤ b → (tr k).slave = v := by
  refine slave_holds htr ha fun k hak hkb hk => ?_
  obtain ⟨hrst, hstrobe⟩ := hopen k hak hkb
  rw [tick_slave_of_sAck hrst (by rw [hk, hv]), hstrobe]
  exact hk

/-! ### The tick that ends each wait -/

theorem readDrive_of_acknowledge (htr : isTrace tr) (hopen : undisturbed tr a (a + 1)) (ha : (tr a).slave = v)
    (hv : v.S = .readRequest) (hack : (tr a).inputs.srdAck = true) :
    (tr (a + 1)).slave = { v with S := .readDrive, rdata := (tr a).inputs.srdDat } := by
  obtain ⟨hrst, hstrobe⟩ := hopen a le_rfl a.lt_succ_self
  rw [eq_tick_of_step (htr a), tick_slave_readRequest hrst (by rw [ha, hv]), hstrobe, hack, ha]
  rfl

theorem writeRequest_of_dataStrobe (htr : isTrace tr) (hopen : undisturbed tr a (a + 1)) (ha : (tr a).slave = v)
    (hv : v.S = .writeWaitData) (hdata : (tr a).sync.s2.dsN = false) :
    (tr (a + 1)).slave = { v with S := .writeRequest } := by
  obtain ⟨hrst, hstrobe⟩ := hopen a le_rfl a.lt_succ_self
  rw [eq_tick_of_step (htr a), tick_slave_writeWaitData hrst (by rw [ha, hv]), hstrobe, hdata, ha]
  rfl

theorem writeAck_of_acknowledge (htr : isTrace tr) (hopen : undisturbed tr a (a + 1)) (ha : (tr a).slave = v)
    (hv : v.S = .writeRequest) (hack : (tr a).inputs.swrAck = true) :
    (tr (a + 1)).slave = { v with S := .writeAck } := by
  obtain ⟨hrst, hstrobe⟩ := hopen a le_rfl a.lt_succ_self
  rw [eq_tick_of_step (htr a), tick_slave_writeRequest hrst (by rw [ha, hv]), hstrobe, hack, ha]
  rfl

theorem released_of_withdrawn (htr : isTrace tr) (ha : (tr a).slave = v) (hv : sAck v = true)
    (hw : withdrawn (tr a) = true) : (tr (a + 1)).slave.S = .idle ∧ (out (tr (a + 1))).dsackOe = false := by
  have hidle : (tr (a + 1)).slave.S = .idle := by
    rw [eq_tick_of_step (htr a), tick_slave_of_withdrawn (busy_of_sAck (by rw [ha, hv])) hw, slaveAbort_S]
  exact ⟨hidle, sAck_of_idle hidle⟩

end

/-- Settles O22: the withdrawal writes `S` alone, and an idle responder keeps every register until a start. -/
theorem abortReturnsToIdle : Obligations.AbortReturnsToIdle := by
  refine ⟨fun s hbusy hw => ?_, fun tr n htr hbusy hw hno k hk hkn => ?_⟩
  · have habort := tick_slave_of_withdrawn hbusy hw
    exact ⟨tick s, step_eq_tick s, habort, out_of_slave_idle (by rw [habort, slaveAbort_S])⟩
  · have habort : (tr 1).slave = slaveAbort (tr 0).slave := by
      rw [eq_tick_of_step (htr 0), tick_slave_of_withdrawn hbusy hw]
    have hstays := idle_until_start htr habort (slaveAbort_S _) hno k hk hkn
    exact ⟨hstays, out_of_slave_idle (by rw [hstays, slaveAbort_S])⟩

/-! ## The sequences of R199 -/

theorem slave_after_start {tr : Nat → State} (htr : isTrace tr) (hstart : start (tr 0) = true)
    (hrst : (tr 0).inputs.rst = false) : (tr 1).slave = cycleStarted (tr 0) := by
  rw [eq_tick_of_step (htr 0), tick_slave_of_start hrst hstart]

/-- Settles O26: the request stands from the start to the acknowledge, the drive from there to the withdrawal. -/
theorem slaveReadSequence : Obligations.SlaveReadSequence := by
  intro tr n m htr hstart hread hrst hstrobe hnoack hack hw
  have hopen : undisturbed tr 1 (n + m + 2) := fun k h1 hk =>
    ⟨hrst k (Nat.le_of_lt hk), hstrobe k h1 (Nat.le_of_lt_succ hk)⟩
  have hS : (cycleStarted (tr 0)).S = .readRequest := by rw [cycleStarted_S, hread]; rfl
  have hrequest : ∀ k, 1 ≤ k → k ≤ n + 1 → (tr k).slave = cycleStarted (tr 0) :=
    readRequest_until_acknowledge htr (hopen.within le_rfl (by omega))
      (slave_after_start htr hstart (hrst 0 (Nat.zero_le _))) hS
      fun k h1 hk => hnoack k h1 (Nat.le_of_lt_succ hk)
  have hdrive := acknowledges_until_withdrawal htr (hopen.within (by omega) le_rfl)
    (readDrive_of_acknowledge htr (hopen.within (by omega) (by omega)) (hrequest (n + 1) (by omega) le_rfl) hS hack) rfl
  refine ⟨fun k h1 hk => ?_, fun k h2 hk => ?_, released_of_withdrawn htr (hdrive _ (by omega) le_rfl) rfl hw⟩
  · have hregs := hrequest k h1 hk
    refine ⟨(srdCycO_iff _).2 (by rw [hregs, hS]), ?_, ?_, ?_⟩
    · rw [out_srdAdrO, hregs, cycleStarted_ctxAdr]
    · rw [out_srdSelO, hregs, cycleStarted_ctxMask]
    · rw [dsackOe_eq_sAck, hregs, sAck, hS]; rfl
  · have hregs := hdrive k h2 hk
    obtain ⟨hdOe, hdO⟩ := out_data_of_readDrive (s := tr k) (by rw [hregs])
    refine ⟨srdCycO_eq_false (by simp [hregs]), by rw [dsackOe_eq_sAck, hregs]; rfl, hdOe, fun hfree => ?_⟩
    rw [hdO hfree, hregs]

/-- Settles O27: the wait for the data strobe, the request with live data, and the acknowledge up to the withdrawal. -/
theorem slaveWriteSequence : Obligations.SlaveWriteSequence := by
  intro tr p n m htr hstart hwrite hrst hstrobe hnodata hdata hnoack hack hw
  have hopen : undisturbed tr 1 (p + n + m + 3) := fun k h1 hk =>
    ⟨hrst k (Nat.le_of_lt hk), hstrobe k h1 (Nat.le_of_lt_succ hk)⟩
  have hS : (cycleStarted (tr 0)).S = .writeWaitData := by rw [cycleStarted_S, hwrite]; rfl
  have hwait : ∀ k, 1 ≤ k → k ≤ p + 1 → (tr k).slave = cycleStarted (tr 0) :=
    writeWaitData_until_dataStrobe htr (hopen.within le_rfl (by omega))
      (slave_after_start htr hstart (hrst 0 (Nat.zero_le _))) hS
      fun k h1 hk => hnodata k h1 (Nat.le_of_lt_succ hk)
  have hrequest : ∀ k, p + 2 ≤ k → k ≤ p + n + 2 →
      (tr k).slave = { cycleStarted (tr 0) with S := .writeRequest } :=
    writeRequest_until_acknowledge htr (hopen.within (by omega) (by omega))
      (writeRequest_of_dataStrobe htr (hopen.within (by omega) (by omega)) (hwait (p + 1) (by omega) le_rfl) hS hdata)
      rfl fun k h2 hk => hnoack k h2 (Nat.le_of_lt_succ hk)
  have hacked := acknowledges_until_withdrawal htr (hopen.within (by omega) le_rfl)
    (writeAck_of_acknowledge htr (hopen.within (by omega) (by omega)) (hrequest (p + n + 2) (by omega) le_rfl) rfl hack)
    rfl
  refine ⟨fun k h1 hk => ?_, fun k h2 hk => ?_, fun k h3 hk => ?_,
    released_of_withdrawn htr (hacked _ (by omega) le_rfl) rfl hw⟩
  · have hregs := hwait k h1 hk
    exact ⟨swrCycO_eq_false (by simp [hregs, hS]), by rw [dsackOe_eq_sAck, hregs, sAck, hS]; rfl⟩
  · have hregs := hrequest k h2 hk
    refine ⟨(swrCycO_iff _).2 (by rw [hregs]), out_swrWeO _, ?_, ?_, out_swrDatO _, ?_⟩
    · rw [out_swrAdrO, hregs, cycleStarted_ctxAdr]
    · rw [out_swrSelO, hregs, cycleStarted_ctxMask]
    · rw [dsackOe_eq_sAck, hregs]; rfl
  · have hregs := hacked k h3 hk
    exact ⟨swrCycO_eq_false (by simp [hregs]), by rw [dsackOe_eq_sAck, hregs]; rfl⟩

end Sys2Proof.Safety

/-! The Bus Arbiter (43_bus_arbiter.md): its table state by state, its outputs, what enters ownership, and where
it does not read the grant. -/

namespace Sys2Proof.Machine

/-! ## The outputs -/

theorem ownO_iff (s : State) : (out s).ownO = true ↔ s.A = .own := by
  simp [out, outOf]

theorem bgackOe_iff (s : State) : (out s).bgackOe = true ↔ s.A = .own := by
  simp [out, outOf]

theorem brOe_iff (s : State) : (out s).brOe = true ↔ s.A ≠ .idle := by
  simp [out, outOf]

theorem arbiter_busy_iff (A : AState) : A ≠ .idle ↔ A = .request ∨ A = .waitFree ∨ A = .own := by
  cases A <;> decide

/-- Settles O32: each enable tests `A`, and the two driven lines are constantly low. -/
theorem arbiterOutputs : Obligations.ArbiterOutputs := fun s =>
  ⟨ownO_iff s, (brOe_iff s).trans (arbiter_busy_iff s.A), rfl, bgackOe_iff s, rfl⟩

/-! ## The transition table, state by state -/

theorem granted_iff (s : State) : granted s = true ↔ s.sync.s2.bgN = false := by
  simp [granted]

section
variable {s : State}

theorem arbNext_idle (h : s.A = .idle) : arbNext s = if req s = true then .request else .idle := by
  simp [arbNext, h]

theorem arbNext_request (h : s.A = .request) :
    arbNext s = if req s = false then .idle else if granted s = true then .waitFree else .request := by
  simp [arbNext, h]

theorem arbNext_waitFree (h : s.A = .waitFree) :
    arbNext s = if req s = false then .idle else if busIdle s = true then .own else .waitFree := by
  simp [arbNext, h]

theorem arbNext_own (h : s.A = .own) :
    arbNext s = if req s = false ∧ releasable s.master.M = true then .idle else .own := by
  simp [arbNext, h]

/-- Ownership is kept while the Master Engine runs a transfer, whatever the request does (R236). -/
theorem arbNext_of_not_releasable (hA : s.A = .own) (hM : releasable s.master.M = false) : arbNext s = .own := by
  rw [arbNext_own hA, if_neg (by simp [hM])]

/-- A request withdrawn before ownership ends the arbitration (R234, R241). -/
theorem arbNext_of_withdrawn (hA : s.A = .request ∨ s.A = .waitFree) (hreq : req s = false) : arbNext s = .idle := by
  obtain hA | hA := hA
  · rw [arbNext_request hA, if_pos hreq]
  · rw [arbNext_waitFree hA, if_pos hreq]

theorem tick_A_of_no_reset (hrst : s.inputs.rst = false) : (tick s).A = arbNext s := by
  rw [tick_A, hrst, resetArb_false]

end

/-- Settles O29: the conditions of each row are those of R233 on stage 2, and without reset `A` takes its row. -/
theorem arbiterTransitionTable : Obligations.ArbiterTransitionTable := by
  intro s hrst
  refine ⟨tick s, step_eq_tick s, fun hA => ?_, fun hA => ?_, fun hA => ?_, fun hA => ?_⟩
  all_goals rw [tick_A_of_no_reset hrst]
  · exact arbNext_idle hA
  · simp only [arbNext_request hA, granted_iff]
  · simp only [arbNext_waitFree hA, busIdle_iff]
  · simp only [arbNext_own hA, releasable_iff]

/-! ## What enters ownership -/

/-- Everything a tick can do to the Bus Arbiter. The first case is a reset edge, a withdrawal, a release,
or staying idle. -/
theorem tick_A_cases (s : State) :
    ((tick s).A = .idle) ∨
    ((tick s).A = s.A) ∨
    (s.A = .idle ∧ req s = true ∧ (tick s).A = .request) ∨
    (s.A = .request ∧ req s = true ∧ granted s = true ∧ (tick s).A = .waitFree) ∨
    (s.A = .waitFree ∧ req s = true ∧ busIdle s = true ∧ (tick s).A = .own) := by
  rw [tick_A]
  cases s.inputs.rst with
  | true => exact .inl rfl
  | false =>
    rw [resetArb_false]
    obtain hstay | hrequest | hgrant | hown | ⟨-, -, -, hidle⟩ := arbNext_cases s
    · exact .inr (.inl hstay)
    · exact .inr (.inr (.inl hrequest))
    · exact .inr (.inr (.inr (.inl hgrant)))
    · exact .inr (.inr (.inr (.inr hown)))
    · exact .inl hidle

/-- Settles O31: of the moves a tick can make, one leads into `OWN` and one into `WAIT_FREE`. -/
theorem ownershipNeedsGrantAndIdleBus : Obligations.OwnershipNeedsGrantAndIdleBus := by
  intro s t hstep
  obtain rfl := eq_tick_of_step hstep
  refine ⟨fun hown hbefore => ?_, fun hwait hbefore => ?_, (bgackOe_iff _).1⟩
  · obtain h | h | ⟨-, -, h⟩ | ⟨-, -, -, h⟩ | ⟨hA, hreq, hfree, -⟩ := tick_A_cases s
    case inr.inl => exact absurd (h.symm.trans hown) hbefore
    case inr.inr.inr.inr => exact ⟨hA, hfree, hreq⟩
    all_goals exact absurd (h.symm.trans hown) (by decide)
  · obtain h | h | ⟨-, -, h⟩ | ⟨hA, hreq, hgrant, -⟩ | ⟨-, -, -, h⟩ := tick_A_cases s
    case inr.inl => exact absurd (h.symm.trans hwait) hbefore
    case inr.inr.inr.inl => exact ⟨hA, hgrant, hreq⟩
    all_goals exact absurd (h.symm.trans hwait) (by decide)

/-! ## The grant -/

/-- The same tick with another synchronized grant. -/
def State.withGrant (s : State) (b : Bool) : State :=
  { s with sync := { s.sync with s2 := { s.sync.s2 with bgN := b } } }

section
variable (s : State) (b : Bool)

theorem withGrant_slaveNext : slaveNext (s.withGrant b) = slaveNext s := rfl
theorem withGrant_masterNext : masterNext (s.withGrant b) = masterNext s := rfl
theorem withGrant_rst : (s.withGrant b).inputs.rst = s.inputs.rst := rfl

end

/-- The rows of the three other states do not test the grant (R235). -/
theorem withGrant_arbNext {s : State} (b : Bool) (h : s.A ≠ .request) : arbNext (s.withGrant b) = arbNext s := by
  have hA : (s.withGrant b).A = s.A := rfl
  cases hs : s.A with
  | idle => rw [arbNext_idle hs, arbNext_idle (hA.trans hs)]; rfl
  | request => exact absurd hs h
  | waitFree => rw [arbNext_waitFree hs, arbNext_waitFree (hA.trans hs)]; rfl
  | own => rw [arbNext_own hs, arbNext_own (hA.trans hs)]; rfl

/-- Settles O30: the other two machines never read the grant, and the arbiter reads it in `REQUEST` alone. -/
theorem grantReadOnlyInRequest : Obligations.GrantReadOnlyInRequest := by
  intro s b hA
  refine ⟨tick s, tick (s.withGrant b), step_eq_tick s, step_eq_tick (s.withGrant b), ?_, ?_, ?_⟩
  · rw [tick_A, tick_A, withGrant_arbNext b hA, withGrant_rst]
  · rw [tick_slave, tick_slave, withGrant_slaveNext, withGrant_rst]
  · rw [tick_master, tick_master, withGrant_masterNext, withGrant_rst]

end Sys2Proof.Machine

/-! The Master Transfer Engine (44_master_engine.md): what each state does in a tick, the cancelled arbitration
that starts nothing (R241), the transfer nobody can cancel (R258), and the sequences of R265 and R266 over a run. -/

namespace Sys2Proof.Machine

/-! ## One tick of the Master Engine, state by state -/

section
variable {s : State}

theorem resetMaster_of_idle {m : MasterRegs} (h : m.M = .idle) (rst : Bool) : resetMaster rst m = m := by
  cases rst with
  | false => rfl
  | true => rw [resetMaster_true, ← h]

/-- An idle Master Engine that starts no transfer keeps every register, reset or not. -/
theorem tick_master_of_idle_not_start (hM : s.master.M = .idle) (hstart : masterStarts s = false) :
    (tick s).master = s.master := by
  have hstays : masterContinue s = s.master := by simp [masterContinue, hM]
  rw [tick_master, masterNext_continue s hstart, hstays, resetMaster_of_idle hM]

theorem tick_master_of_start (hrst : s.inputs.rst = false) (hstart : masterStarts s = true) :
    (tick s).master = masterBegin s.inputs.dmaWe s := by
  rw [tick_master, hrst, resetMaster_false, masterNext_start s hstart]

theorem tick_master_of_busy (hrst : s.inputs.rst = false) (hbusy : s.master.M ≠ .idle) :
    (tick s).master = masterContinue s := by
  rw [tick_master, hrst, resetMaster_false, masterNext_continue s (masterStarts_false_of_busy s hbusy)]

theorem tick_master_driveAddress (hrst : s.inputs.rst = false) (hM : s.master.M = .driveAddress) :
    (tick s).master = { s.master with M := .assertStrobes } := by
  rw [tick_master_of_busy hrst (by simp [hM])]
  simp [masterContinue, hM]

theorem tick_master_assertStrobes (hrst : s.inputs.rst = false) (hM : s.master.M = .assertStrobes) :
    (tick s).master = { s.master with M := .waitAck } := by
  rw [tick_master_of_busy hrst (by simp [hM])]
  simp [masterContinue, hM]

theorem tick_master_waitAck (hrst : s.inputs.rst = false) (hM : s.master.M = .waitAck) :
    (tick s).master = if ackSeen s then masterCapture s else s.master := by
  rw [tick_master_of_busy hrst (by simp [hM])]
  simp [masterContinue, hM]

theorem tick_master_complete (hrst : s.inputs.rst = false) (hM : s.master.M = .complete) :
    (tick s).master = { s.master with M := .idle } := by
  rw [tick_master_of_busy hrst (by simp [hM])]
  simp [masterContinue, hM]

end

theorem ackSeen_eq_false_iff (s : State) : ackSeen s = false ↔ s.sync.s2.dsackN = 0b11#2 := by
  simp [ackSeen]

/-! ## A cancelled arbitration -/

/-- A transfer needs ownership (R251). -/
theorem masterStarts_false_of_not_own {s : State} (h : s.A ≠ .own) : masterStarts s = false := by
  simp [masterStarts, h]

/-- Settles O33: the withdrawal leads to `IDLE`, and outside `OWN` nothing is asserted and no transfer starts. -/
theorem cancelledArbitration : Obligations.CancelledArbitration := by
  intro s hA hreq hM
  have hnotOwn : s.A ≠ .own := by obtain h | h := hA <;> simp [h]
  have hidle : (tick s).A = .idle := by
    rw [tick_A, arbNext_of_withdrawn hA hreq]
    cases s.inputs.rst <;> rfl
  refine ⟨tick s, step_eq_tick s, hidle, ?_, ?_, ?_,
    tick_master_of_idle_not_start hM (masterStarts_false_of_not_own hnotOwn)⟩
  · rwa [Bool.eq_false_iff, ne_eq, bgackOe_iff]
  · rw [Bool.eq_false_iff, ne_eq, brOe_iff, hidle, not_not]
  · rw [Bool.eq_false_iff, ne_eq, bgackOe_iff, hidle]
    decide

/-! ## No cancellation of a transfer -/

/-- The same tick with other inputs from the requester, the lane select aside. -/
def State.withDmaRequest (s : State) (cyc stb we : Bool) (adr : WordAddr) (dat : Word) : State :=
  { s with inputs := { s.inputs with dmaCyc := cyc, dmaStb := stb, dmaWe := we, dmaAdr := adr, dmaDat := dat } }

section
variable (s : State) (cyc stb we : Bool) (adr : WordAddr) (dat : Word)

theorem withDmaRequest_slaveNext : slaveNext (s.withDmaRequest cyc stb we adr dat) = slaveNext s := rfl
theorem withDmaRequest_rst : (s.withDmaRequest cyc stb we adr dat).inputs.rst = s.inputs.rst := rfl
theorem withDmaRequest_masterContinue :
    masterContinue (s.withDmaRequest cyc stb we adr dat) = masterContinue s := rfl

end

/-- Only a transfer start reads the requester's inputs, and a busy Master Engine starts none (R252). -/
theorem withDmaRequest_masterNext {s : State} (cyc stb we : Bool) (adr : WordAddr) (dat : Word)
    (hbusy : s.master.M ≠ .idle) : masterNext (s.withDmaRequest cyc stb we adr dat) = masterNext s := by
  have hnostart := masterStarts_false_of_busy (s.withDmaRequest cyc stb we adr dat) hbusy
  rw [masterNext_continue _ hnostart, withDmaRequest_masterContinue,
    masterNext_continue s (masterStarts_false_of_busy s hbusy)]

theorem not_releasable {m : MState} (hidle : m ≠ .idle) (hcomplete : m ≠ .complete) : releasable m = false := by
  simp [releasable, hidle, hcomplete]

/-- Settles O38: the request is read at a start and at a release, and a running transfer admits neither. -/
theorem transferNotCancellable : Obligations.TransferNotCancellable := by
  intro s cyc stb we adr dat hbusy
  refine ⟨tick s, tick (s.withDmaRequest cyc stb we adr dat), step_eq_tick s, step_eq_tick _, ?_, ?_,
    fun hA hcomplete => ?_⟩
  · rw [tick_master, tick_master, withDmaRequest_masterNext _ _ _ _ _ hbusy, withDmaRequest_rst]
  · rw [tick_slave, tick_slave, withDmaRequest_slaveNext, withDmaRequest_rst]
  · have hkept := not_releasable hbusy hcomplete
    rw [tick_A, tick_A, arbNext_of_not_releasable hA hkept, withDmaRequest_rst,
      arbNext_of_not_releasable (s := s.withDmaRequest cyc stb we adr dat) hA hkept]

/-! ## The registers of a transfer and what they drive -/

/-- The Master Engine in state `p` of the transfer that the tick `s` starts, with `data` in `mrdata` (R252). -/
def transferRegs (s : State) (p : MState) (data : Word) : MasterRegs :=
  { M := p, mctxAdr := s.inputs.dmaAdr, mctxWe := s.inputs.dmaWe, mctxWdata := s.inputs.dmaDat, mrdata := data }

theorem masterBegin_eq_transferRegs (s : State) :
    masterBegin s.inputs.dmaWe s = transferRegs s .driveAddress s.master.mrdata := rfl

/-- The acknowledge of a transfer's last waiting tick (R255, R256). -/
theorem masterCapture_of_transferRegs {s₀ s : State} {p : MState} {data : Word}
    (h : s.master = transferRegs s₀ p data) :
    masterCapture s = transferRegs s₀ .complete (if s₀.inputs.dmaWe = true then data else s.sync.s2.d) := by
  rw [masterCapture, h]
  rfl

@[simp] theorem out_aO (s : State) : (out s).aO = byteAddr s.master.mctxAdr := rfl
@[simp] theorem out_rwO (s : State) : (out s).rwO = !s.master.mctxWe := rfl
@[simp] theorem out_sizO (s : State) : (out s).sizO = 0b00#2 := rfl
@[simp] theorem out_asNO (s : State) : (out s).asNO = !strobesAsserted s.master := rfl
@[simp] theorem out_dmaDatO (s : State) : (out s).dmaDatO = s.master.mrdata := rfl

theorem strobesAsserted_iff (m : MasterRegs) : strobesAsserted m = true ↔ m.M = .assertStrobes ∨ m.M = .waitAck := by
  simp [strobesAsserted]

section
variable {s : State}

theorem aOe_iff : (out s).aOe = true ↔ s.master.M ≠ .idle := by
  simp [out, outOf]

theorem ctlOe_eq_aOe : (out s).ctlOe = (out s).aOe := rfl

theorem asNO_eq_false_iff : (out s).asNO = false ↔ s.master.M = .assertStrobes ∨ s.master.M = .waitAck := by
  rw [out_asNO, Bool.not_eq_false', strobesAsserted_iff]

theorem dmaAckO_iff : (out s).dmaAckO = true ↔ s.master.M = .complete := by
  simp [out, outOf]

/-- A write's data is driven in every tick of its transfer (R260, R273). -/
theorem out_data_of_write (hM : s.master.M ≠ .idle) (hwe : s.master.mctxWe = true) :
    (out s).dOe = true ∧ (out s).dO = s.master.mctxWdata := by
  have hdrive : mDrive s.master = true := by simp [mDrive, hM, hwe]
  simp [out, outOf, hdrive]

/-- The outputs that stand through a transfer, whatever its state (R237, R260, R271 to R273). -/
theorem out_of_transferRegs {s₀ : State} {p : MState} {data : Word} (h : s.master = transferRegs s₀ p data)
    (hp : p ≠ .idle) :
    (out s).aOe = true ∧ (out s).ctlOe = true ∧ (out s).aO = byteAddr s₀.inputs.dmaAdr ∧
      (out s).rwO = !s₀.inputs.dmaWe ∧ (out s).sizO = 0b00#2 ∧
      (s₀.inputs.dmaWe = true → (out s).dOe = true ∧ (out s).dO = s₀.inputs.dmaDat) := by
  have hM : s.master.M ≠ .idle := by rwa [h]
  have haOe := aOe_iff.2 hM
  refine ⟨haOe, ctlOe_eq_aOe.trans haOe, ?_, ?_, out_sizO s, fun hwe => ?_⟩
  · rw [out_aO, h, transferRegs]
  · rw [out_rwO, h, transferRegs]
  · have hdata := out_data_of_write hM (by rw [h]; exact hwe)
    rwa [h] at hdata

end

end Sys2Proof.Machine

namespace Sys2Proof.Safety

open Sys2Proof.Machine

/-! ## The Master Engine and the ownership over a run -/

section
variable {tr : Nat → State} {a b : Nat}

/-- Without reset the bus stays owned while the Master Engine runs a transfer (R236). -/
theorem own_until_complete (htr : isTrace tr) (ha : (tr a).A = .own)
    (hbusy : ∀ k, a ≤ k → k < b → (tr k).inputs.rst = false ∧ releasable (tr k).master.M = false) :
    ∀ k, a ≤ k → k ≤ b → (tr k).A = .own := by
  intro k hak
  induction k, hak using Nat.le_induction with
  | base => exact fun _ => ha
  | succ k hak ih =>
    intro hkb
    obtain ⟨hrst, hkept⟩ := hbusy k hak hkb
    rw [eq_tick_of_step (htr k), tick_A_of_no_reset hrst,
      arbNext_of_not_releasable (ih (Nat.le_of_succ_le hkb)) hkept]

/-- Without reset `WAIT_ACK` waits for the acknowledge (R255, R259). -/
theorem waitAck_until_acknowledge (htr : isTrace tr) {m : MasterRegs} (ha : (tr a).master = m) (hm : m.M = .waitAck)
    (hwait : ∀ k, a ≤ k → k < b → (tr k).inputs.rst = false ∧ (tr k).sync.s2.dsackN = 0b11#2) :
    ∀ k, a ≤ k → k ≤ b → (tr k).master = m := by
  intro k hak
  induction k, hak using Nat.le_induction with
  | base => exact fun _ => ha
  | succ k hak ih =>
    intro hkb
    obtain ⟨hrst, hnoack⟩ := hwait k hak hkb
    have hk := ih (Nat.le_of_succ_le hkb)
    rw [eq_tick_of_step (htr k), tick_master_waitAck hrst (by rw [hk, hm]), (ackSeen_eq_false_iff _).2 hnoack]
    exact hk

end

/-! ## The sequences of R265 and R266 -/

/-- The state of the Master Engine `k` ticks after a transfer start with `n` ticks of waiting, up to `COMPLETE`. -/
def transferPhase (n k : Nat) : MState :=
  if k = 1 then .driveAddress else if k = 2 then .assertStrobes else if k ≤ n + 3 then .waitAck else .complete

section
variable {n k : Nat}

theorem transferPhase_ne_idle : transferPhase n k ≠ .idle := by
  unfold transferPhase
  split_ifs <;> decide

theorem transferPhase_strobes_iff (h1 : 1 ≤ k) :
    transferPhase n k = .assertStrobes ∨ transferPhase n k = .waitAck ↔ 2 ≤ k ∧ k ≤ n + 3 := by
  unfold transferPhase
  split_ifs <;> simp <;> omega

theorem transferPhase_complete_iff (hk : k ≤ n + 4) : transferPhase n k = .complete ↔ k = n + 4 := by
  unfold transferPhase
  split_ifs <;> simp <;> omega

end

section
variable {tr : Nat → State} {n : Nat} (htr : isTrace tr) (hstart : masterStarts (tr 0) = true)
  (hrst : ∀ k, k ≤ n + 4 → (tr k).inputs.rst = false)
  (hwait : ∀ k, 3 ≤ k → k ≤ n + 2 → (tr k).sync.s2.dsackN = 0b11#2)
include htr hstart hrst hwait

/-- Up to the acknowledge the registers are the latched context, and `M` goes through its states (R250 to R255). -/
theorem transferRegs_before_acknowledge :
    ∀ k, 1 ≤ k → k ≤ n + 3 →
      (tr k).master = transferRegs (tr 0) (transferPhase n k) (tr 0).master.mrdata := by
  have hdrive : (tr 1).master = transferRegs (tr 0) .driveAddress (tr 0).master.mrdata := by
    rw [eq_tick_of_step (htr 0), tick_master_of_start (hrst 0 (by omega)) hstart, masterBegin_eq_transferRegs]
  have hstrobes : (tr 2).master = transferRegs (tr 0) .assertStrobes (tr 0).master.mrdata := by
    rw [eq_tick_of_step (htr 1), tick_master_driveAddress (hrst 1 (by omega)) (by rw [hdrive]; rfl), hdrive]
    rfl
  have hwaiting : (tr 3).master = transferRegs (tr 0) .waitAck (tr 0).master.mrdata := by
    rw [eq_tick_of_step (htr 2), tick_master_assertStrobes (hrst 2 (by omega)) (by rw [hstrobes]; rfl), hstrobes]
    rfl
  have hwaits := waitAck_until_acknowledge (b := n + 3) htr hwaiting rfl fun k h3 hk =>
    ⟨hrst k (by omega), hwait k h3 (by omega)⟩
  intro k h1 hk
  unfold transferPhase
  split_ifs with hk1 hk2
  · rw [hk1, hdrive]
  · rw [hk2, hstrobes]
  · exact hwaits k (by omega) hk

/-- In the tick after the acknowledge `M` is `COMPLETE`, with a read's data captured from the acknowledge's
sample (R256). -/
theorem transferRegs_after_acknowledge (hack : (tr (n + 3)).sync.s2.dsackN ≠ 0b11#2) :
    (tr (n + 4)).master = transferRegs (tr 0) (transferPhase n (n + 4))
      (if (tr 0).inputs.dmaWe = true then (tr 0).master.mrdata else (tr (n + 3)).sync.s2.d) := by
  have hregs := transferRegs_before_acknowledge htr hstart hrst hwait (n + 3) (by omega) le_rfl
  have hM : (tr (n + 3)).master.M = .waitAck := by
    rw [hregs, transferRegs, transferPhase, if_neg (by omega), if_neg (by omega), if_pos le_rfl]
  rw [eq_tick_of_step (htr (n + 3)), tick_master_waitAck (hrst _ (by omega)) hM, if_pos ((ackSeen_iff _).2 hack),
    masterCapture_of_transferRegs hregs, (transferPhase_complete_iff le_rfl).2 rfl]

/-- The bus is owned from the transfer start to `COMPLETE`: the start has a request, and then `M` is busy (R236). -/
theorem own_through_transfer : ∀ k, k ≤ n + 4 → (tr k).A = .own := by
  obtain ⟨-, hown, hreq⟩ := (masterStarts_iff _).1 hstart
  have hown1 : (tr 1).A = .own := by
    rw [eq_tick_of_step (htr 0), tick_A_of_no_reset (hrst 0 (by omega)), arbNext_own hown, if_neg (by simp [hreq])]
  have hbusy : ∀ k, 1 ≤ k → k < n + 4 → (tr k).inputs.rst = false ∧ releasable (tr k).master.M = false := by
    intro k h1 hk
    have hbefore : transferPhase n k ≠ .complete := by
      rw [ne_eq, transferPhase_complete_iff hk.le]
      exact hk.ne
    refine ⟨hrst k hk.le, ?_⟩
    rw [transferRegs_before_acknowledge htr hstart hrst hwait k h1 (Nat.le_of_lt_succ hk)]
    exact not_releasable transferPhase_ne_idle hbefore
  intro k hk
  obtain rfl | h1 := Nat.eq_zero_or_pos k
  · exact hown
  · exact own_until_complete htr hown1 hbusy k h1 hk

end

/-- Settles O41: the registers of every tick give its outputs, and the tick after `COMPLETE` releases the bus lines. -/
theorem dmaTransferSequence : Obligations.DmaTransferSequence := by
  intro tr n htr hstart hrst hwait hack
  have hdone := transferRegs_after_acknowledge htr hstart hrst hwait hack
  have hregs : ∀ k, 1 ≤ k → k ≤ n + 4 →
      ∃ data, (tr k).master = transferRegs (tr 0) (transferPhase n k) data := by
    intro k h1 hk
    obtain rfl | hlt := Nat.eq_or_lt_of_le hk
    · exact ⟨_, hdone⟩
    · exact ⟨_, transferRegs_before_acknowledge htr hstart hrst hwait k h1 (Nat.le_of_lt_succ hlt)⟩
  have hcomplete : (tr (n + 4)).master.M = .complete := by
    rw [hdone]
    exact (transferPhase_complete_iff le_rfl).2 rfl
  have hidle : (tr (n + 5)).master.M = .idle := by
    rw [eq_tick_of_step (htr (n + 4)), tick_master_complete (hrst _ le_rfl) hcomplete]
  have hreleased : (out (tr (n + 5))).aOe = false := by
    rw [Bool.eq_false_iff, ne_eq, aOe_iff, hidle, not_not]
  refine ⟨fun k h1 hk => ?_, ?_, hidle, hreleased, ctlOe_eq_aOe.trans hreleased⟩
  · obtain ⟨data, hk_regs⟩ := hregs k h1 hk
    have hM : (tr k).master.M = transferPhase n k := by rw [hk_regs, transferRegs]
    obtain ⟨haOe, hctlOe, haO, hrwO, hsizO, hdata⟩ := out_of_transferRegs hk_regs transferPhase_ne_idle
    refine ⟨(ownO_iff _).2 (own_through_transfer htr hstart hrst hwait k hk), haOe, hctlOe, haO, hrwO, hsizO, hdata,
      ?_, ?_⟩
    · rw [asNO_eq_false_iff, hM, transferPhase_strobes_iff h1]
    · rw [dmaAckO_iff, hM, transferPhase_complete_iff hk]
  · rw [out_dmaDatO, hdone, transferRegs]

end Sys2Proof.Safety

/-! The Master Transfer Engine (44_master_engine.md), continued: what a transfer start latches, the whole transition table, what
writes each register, the outputs, and the ownership that every drive comes with (R268). -/

namespace Sys2Proof.Machine

open Claims

/-! ## The operations at the tick that starts a transfer -/

/-- The registers a transfer start leaves, as the model's rule and as the statements write them (R251, R252). -/
theorem masterBegin_eq_masterStarted (we : Bool) (s : State) : masterBegin we s = masterStarted s we := rfl

/-- Without a reset a DMA operation at a transfer start is the tick with its own direction latched. -/
theorem dmaOperation_at_start {s : State} (hstart : masterStarts s = true) (hrst : s.inputs.rst = false) (we : Bool) :
    dmaOperation we s = .next { tick s with master := masterStarted s we } := by
  rw [dmaOperation_start we s hstart, masterBegin_eq_masterStarted, tick, tickWith, tickWith, hrst, resetMaster_false]

/-- Settles O14: the two operations are `dmaOperation` of the two directions (R265, R266). -/
theorem dmaOperationsStart : Obligations.DmaOperationsStart :=
  fun _ hstart hrst => ⟨dmaOperation_at_start hstart hrst false, dmaOperation_at_start hstart hrst true⟩

/-! ## The transition table -/

section
variable {s : State}

theorem masterStarts_of_idle (hM : s.master.M = .idle) :
    masterStarts s = true ↔ s.A = .own ∧ req s = true := by
  rw [masterStarts_iff, and_iff_right hM]

theorem tick_master_idle (hrst : s.inputs.rst = false) (hM : s.master.M = .idle) :
    (tick s).master = if s.A = .own ∧ req s = true then masterStarted s s.inputs.dmaWe else s.master := by
  by_cases hstart : masterStarts s = true
  · rw [if_pos ((masterStarts_of_idle hM).1 hstart), tick_master_of_start hrst hstart, masterBegin_eq_masterStarted]
  · rw [if_neg fun h => hstart ((masterStarts_of_idle hM).2 h),
      tick_master_of_idle_not_start hM (Bool.eq_false_iff.2 hstart)]

end

/-- The capture, split by direction: only a read writes `mrdata` (R256). -/
theorem masterCapture_eq (s : State) :
    masterCapture s = if s.master.mctxWe = true then { s.master with M := .complete }
      else { s.master with M := .complete, mrdata := s.sync.s2.d } := by
  unfold masterCapture
  split <;> rfl

/-- Settles O34: each state's row is the tick from that state. -/
theorem masterTransitionTable : Obligations.MasterTransitionTable := by
  intro s hrst
  refine ⟨tick s, step_eq_tick s, tick_master_idle hrst, tick_master_driveAddress hrst, tick_master_assertStrobes hrst,
    fun hM => ?_, tick_master_complete hrst⟩
  rw [tick_master_waitAck hrst hM]
  by_cases hack : s.sync.s2.dsackN = 0b11#2
  · simp [hack, (ackSeen_eq_false_iff s).2 hack]
  · rw [if_pos ((ackSeen_iff s).2 hack), if_neg hack, masterCapture_eq]

/-! ## What writes the context and the read data -/

/-- The rules of a running transfer move `M` and capture `mrdata`; none writes the context (R252). -/
theorem masterContinue_context (s : State) :
    (masterContinue s).mctxAdr = s.master.mctxAdr ∧ (masterContinue s).mctxWe = s.master.mctxWe ∧
      (masterContinue s).mctxWdata = s.master.mctxWdata := by
  obtain ⟨h, -⟩ | ⟨-, h⟩ | ⟨-, h⟩ | ⟨-, -, h⟩ | ⟨-, h⟩ := masterContinue_cases s
  all_goals
    rw [h]
    exact ⟨rfl, rfl, rfl⟩

/-- Settles O35: a transfer start latches the context, every other tick keeps it, and a reset edge does not touch it. -/
theorem masterContextWrittenOnlyAtStart : Obligations.MasterContextWrittenOnlyAtStart := by
  intro s t hstep
  rw [eq_tick_of_step hstep, tick_master, resetMaster_mctxAdr, resetMaster_mctxWe, resetMaster_mctxWdata,
    ← masterStarts_iff]
  refine ⟨fun hstart => ?_, fun hstart => ?_⟩
  · rw [masterNext_start s hstart]
    exact ⟨rfl, rfl, rfl⟩
  · rw [masterNext_continue s (Bool.eq_false_iff.2 hstart)]
    exact masterContinue_context s

/-- Of the rules of a running transfer only a read's acknowledge writes `mrdata` (R256). -/
theorem masterContinue_mrdata (s : State) :
    (masterContinue s).mrdata =
      if s.master.M = .waitAck ∧ s.sync.s2.dsackN ≠ 0b11#2 ∧ s.master.mctxWe = false then s.sync.s2.d
      else s.master.mrdata := by
  obtain ⟨h, hM | ⟨-, hnoack⟩⟩ | ⟨hM, h⟩ | ⟨hM, h⟩ | ⟨hM, hack, h⟩ | ⟨hM, h⟩ := masterContinue_cases s
  case inl.inr => rw [h, if_neg fun hread => hread.2.1 ((ackSeen_eq_false_iff s).1 hnoack)]
  case inr.inr.inr.inl =>
    have hline := (ackSeen_iff s).1 hack
    rw [h, masterCapture_mrdata]
    cases s.master.mctxWe <;> simp [hM, hline]
  all_goals simp [h, hM]

/-- Settles O36: a transfer start and a reset edge leave `mrdata` to the rules of a running transfer. -/
theorem dmaReadDataCapture : Obligations.DmaReadDataCapture := by
  intro s t hstep
  rw [eq_tick_of_step hstep, tick_master, resetMaster_mrdata]
  cases hstart : masterStarts s with
  | false => rw [masterNext_continue s hstart, masterContinue_mrdata]
  | true =>
    obtain ⟨hM, -, -⟩ := (masterStarts_iff s).1 hstart
    rw [masterNext_start s hstart, masterBegin_mrdata, if_neg (by simp [hM])]

/-! ## The outputs -/

theorem dsNO_eq_asNO (s : State) : (out s).dsNO = (out s).asNO := rfl

/-- Settles O37: each output is a register or a test of `M`. -/
theorem masterOutputs : Obligations.MasterOutputs := fun s =>
  ⟨aOe_iff, ctlOe_eq_aOe, out_aO s, out_rwO s, out_sizO s, asNO_eq_false_iff, dsNO_eq_asNO s, out_data_of_write,
    dmaAckO_iff, out_dmaDatO s⟩

theorem mDrive_iff (m : MasterRegs) : mDrive m = true ↔ m.M ≠ .idle ∧ m.mctxWe = true := by
  simp [mDrive]

theorem sDrive_iff (v : SlaveRegs) : sDrive v = true ↔ v.S = .readDrive := by
  simp [sDrive]

theorem contention_iff (s : State) :
    contention s = true ↔ s.master.M ≠ .idle ∧ s.master.mctxWe = true ∧ s.slave.S = .readDrive := by
  rw [contention, Bool.and_eq_true, mDrive_iff, sDrive_iff, and_assoc]

/-! ## What leaves the Master Engine busy -/

theorem tick_M_of_reset {s : State} (hrst : s.inputs.rst = true) : (tick s).master.M = .idle := by
  rw [tick_master, hrst, resetMaster_true]

/-- Where the rules leave `M` out of `IDLE`, a transfer starts or one runs that has not completed. -/
theorem busy_of_masterNext_busy {s : State} (hbusy : (masterNext s).M ≠ .idle) :
    masterStarts s = true ∨ s.master.M ≠ .idle ∧ s.master.M ≠ .complete := by
  refine or_iff_not_imp_left.2 fun hstart => ?_
  rw [masterNext_continue s (Bool.eq_false_iff.2 hstart)] at hbusy
  exact ⟨fun hM => hbusy (by simp [masterContinue, hM]), fun hM => hbusy (by simp [masterContinue, hM])⟩

/-- A transfer starts in ownership with a request, so the arbiter stays in `OWN` (R236, R251). -/
theorem arbNext_of_masterStarts {s : State} (hstart : masterStarts s = true) : arbNext s = .own := by
  obtain ⟨-, hown, hreq⟩ := (masterStarts_iff s).1 hstart
  rw [arbNext_own hown, if_neg (by simp [hreq])]

end Sys2Proof.Machine

namespace Sys2Proof.Safety

open Sys2Proof.Machine

/-! ## The Master Engine drives only in ownership -/

theorem masterOwnsBus_tick_of_reset {s : State} (hrst : s.inputs.rst = true) : masterOwnsBus (tick s) :=
  fun hbusy => absurd (tick_M_of_reset hrst) hbusy

/-- A reset edge idles `M`; in any other tick a busy `M` comes from a start, which needs ownership, or from a
running transfer, which holds it (R236, R268). -/
theorem masterOwnsBus_tick {s : State} (howns : masterOwnsBus s) : masterOwnsBus (tick s) := by
  cases hrst : s.inputs.rst with
  | true => exact masterOwnsBus_tick_of_reset hrst
  | false =>
    intro hbusy
    rw [tick_master, hrst, resetMaster_false] at hbusy
    rw [tick_A_of_no_reset hrst]
    obtain hstart | ⟨hidle, hcomplete⟩ := busy_of_masterNext_busy hbusy
    · exact arbNext_of_masterStarts hstart
    · exact arbNext_of_not_releasable (howns hidle) (not_releasable hidle hcomplete)

theorem ownO_of_busy {s : State} (howns : masterOwnsBus s) (hbusy : s.master.M ≠ .idle) : (out s).ownO = true :=
  (ownO_iff s).2 (howns hbusy)

/-- Settles O42: the invariant holds after a reset edge and every tick keeps it, and each drive needs `M` out of `IDLE`. -/
theorem masterDrivesOnlyWhileOwning : Obligations.MasterDrivesOnlyWhileOwning := by
  refine ⟨fun s t hrst hstep => ?_, fun s t howns hstep => ?_, fun s howns hdrives => ownO_of_busy howns ?_⟩
  · rw [eq_tick_of_step hstep]
    exact masterOwnsBus_tick_of_reset hrst
  · rw [eq_tick_of_step hstep]
    exact masterOwnsBus_tick howns
  · obtain haddress | hcontrol | hdata := hdrives
    · exact aOe_iff.1 haddress
    · exact aOe_iff.1 (ctlOe_eq_aOe.symm.trans hcontrol)
    · exact ((mDrive_iff s.master).1 hdata).1

/-- Settles O57: contention needs a busy Master Engine, which owns the bus and has priority on the data lines (R273). -/
theorem contentionNeedsOwnedWrite : Obligations.ContentionNeedsOwnedWrite := by
  refine fun s => ⟨contention_iff s, fun hcontention howns => ?_⟩
  obtain ⟨hbusy, hwe, -⟩ := (contention_iff s).1 hcontention
  exact ⟨ownO_of_busy howns hbusy, (out_data_of_write hbusy hwe).2⟩

/-! ## The wait without an acknowledge -/

/-- What a tick in `WAIT_ACK` shows on the outputs (R260, R261). -/
theorem out_of_waitAck {s : State} (hM : s.master.M = .waitAck) :
    (out s).ctlOe = true ∧ (out s).asNO = false ∧ (out s).dsNO = false ∧ (out s).dmaAckO = false := by
  have hstrobe : (out s).asNO = false := asNO_eq_false_iff.2 (.inr hM)
  refine ⟨ctlOe_eq_aOe.trans (aOe_iff.2 (by simp [hM])), hstrobe, (dsNO_eq_asNO s).trans hstrobe, ?_⟩
  rw [Bool.eq_false_iff, ne_eq, dmaAckO_iff, hM]
  decide

theorem not_quiescent_of_busy {s : State} (hbusy : s.master.M ≠ .idle) : quiescent s = false := by
  rw [Bool.eq_false_iff, ne_eq, quiescent_iff, (inFlight_iff s).2 (.inr (.inr hbusy))]
  decide

/-- Settles O40: the registers stand through the wait, so the bus stays owned and `M` never leaves `WAIT_ACK`. -/
theorem unacknowledgedTransferStalls : Obligations.UnacknowledgedTransferStalls := by
  refine ⟨fun tr n htr hM hown hwait => ?_, fun tr htr hM _ hwait => ?_⟩
  · have hregs : ∀ k, k ≤ n → (tr k).master = (tr 0).master := fun k =>
      waitAck_until_acknowledge htr rfl hM (fun j _ hj => hwait j hj) k k.zero_le
    have howns : ∀ k, k ≤ n → (tr k).A = .own := fun k =>
      own_until_complete htr hown
        (fun j _ hj => ⟨(hwait j hj).1, not_releasable (by simp [hregs j hj.le, hM]) (by simp [hregs j hj.le, hM])⟩)
        k k.zero_le
    intro k hk
    exact ⟨hregs k hk, (ownO_iff _).2 (howns k hk), out_of_waitAck (by rw [hregs k hk, hM])⟩
  · have hwaits : ∀ k, (tr k).master.M = .waitAck := by
      intro k
      rw [waitAck_until_acknowledge htr rfl hM (fun j _ _ => hwait j) k k.zero_le le_rfl, hM]
    exact ⟨⟨0, fun k _ => hwaits k⟩, fun k => not_quiescent_of_busy (by simp [hwaits k])⟩

end Sys2Proof.Safety

/-! The Output Direction Multiplexer (45_output_mux.md): the data driver of a tick (R273), and the fault flags (R296), which
no rule of the block reads (R276). -/

namespace Sys2Proof.Machine

section
variable {s : State}

/-! ## The data driver -/

theorem dOe_iff :
    (out s).dOe = true ↔ (s.master.M ≠ .idle ∧ s.master.mctxWe = true) ∨ s.slave.S = .readDrive := by
  rw [← mDrive_iff, ← sDrive_iff, ← Bool.or_eq_true]
  rfl

/-- Contention is a write's drive that meets a read's (R276). -/
theorem contention_eq_false_of_no_write (h : ¬ (s.master.M ≠ .idle ∧ s.master.mctxWe = true)) :
    contention s = false := by
  rw [Bool.eq_false_iff]
  intro hcontention
  obtain ⟨hbusy, hwe, -⟩ := (contention_iff s).1 hcontention
  exact h ⟨hbusy, hwe⟩

/-- Settles O53: a write's value is driven whatever the Slave Responder does, and a read's where no write is in flight. -/
theorem dataDriverSelection : Obligations.DataDriverSelection := by
  refine fun s => ⟨dOe_iff, fun ⟨hbusy, hwe⟩ => (out_data_of_write hbusy hwe).2, fun hnowrite hread => ?_,
    fun hbusy hwe hread => (contention_iff s).2 ⟨hbusy, hwe, hread⟩⟩
  exact (out_data_of_readDrive hread).2 (contention_eq_false_of_no_write hnowrite)

/-! ## The fault flags -/

@[simp] theorem tick_faults (s : State) : (tick s).faults = faultsNext s := rfl

theorem faultsNext_contention_iff :
    (faultsNext s).contention = true ↔ s.faults.contention = true ∨ contention s = true :=
  Bool.or_eq_true_iff

theorem faultsNext_busFight_iff :
    (faultsNext s).busFight = true ↔ s.faults.busFight = true ∨ busFight s = true :=
  Bool.or_eq_true_iff

/-- No component's rule reads the flags: with others in their place the tick differs in the flags alone. -/
theorem tick_with_faults (s : State) (f : FaultFlags) :
    tick { s with faults := f } = { tick s with faults := (tick { s with faults := f }).faults } := rfl

theorem fought_iff_ne_none {α : Type} (oe : Bool) (env : Option α) :
    fought oe env = true ↔ oe = true ∧ env ≠ none := by
  rw [fought_iff, Option.isSome_iff_ne_none]

/-- The condition of `F2`, with the four lines under the one control enable put together (R272, R296). -/
theorem busFight_iff :
    busFight s = true ↔
      ((out s).aOe = true ∧ s.inputs.a ≠ none) ∨ ((out s).dOe = true ∧ s.inputs.d ≠ none) ∨
      ((out s).ctlOe = true ∧
        (s.inputs.asN ≠ none ∨ s.inputs.dsN ≠ none ∨ s.inputs.rw ≠ none ∨ s.inputs.siz ≠ none)) := by
  simp only [busFight, Bool.or_eq_true, fought_iff_ne_none, and_or_left, or_assoc]

theorem tick_busFight_eq_false (hclear : s.faults.busFight = false) (hnone : busFight s = false) :
    (tick s).faults.busFight = false := by
  rw [tick_faults, Bool.eq_false_iff, ne_eq, faultsNext_busFight_iff, hclear, hnone]
  decide

end

end Sys2Proof.Machine

namespace Sys2Proof.Safety

open Sys2Proof.Machine

/-! ## `F2` over a run -/

section
variable {e : Agents} {tr : Nat → State} {n k : Nat}

/-- Duty (e) of R300 in the run's own count of ticks: the duty is asked from the last tick of the reset on (log 24). -/
theorem WellBehavedRun.busFight_eq_false (h : WellBehavedRun e tr n) (hk : n ≤ k) : busFight (tr k) = false := by
  have hfree := h.master.noFight (k - (n - 1))
  rwa [ticksFrom, show n - 1 + (k - (n - 1)) = k by omega] at hfree

/-- A flag that is clear stays clear while no tick of the run fights. -/
theorem busFight_stays_clear (htr : isTrace tr) (hclear : (tr n).faults.busFight = false)
    (hfree : ∀ k, n ≤ k → busFight (tr k) = false) (hk : n ≤ k) : (tr k).faults.busFight = false := by
  induction k, hk using Nat.le_induction with
  | base => exact hclear
  | succ k hk ih =>
    rw [eq_tick_of_step (htr k)]
    exact tick_busFight_eq_false ih (hfree k hk)

end

/-- Settles O56: the next flags are read off the tick, no rule reads the old ones, and a dutiful environment never fights. -/
theorem faultFlagsStickyWithoutEffect : Obligations.FaultFlagsStickyWithoutEffect := by
  refine ⟨fun s f => ?_, fun s => busFight_iff, fun e tr n hrun hclear k hk => ?_⟩
  · exact ⟨tick s, tick { s with faults := f }, step_eq_tick s, step_eq_tick _, faultsNext_contention_iff,
      faultsNext_busFight_iff, tick_with_faults s f⟩
  · exact busFight_stays_clear hrun.trace hclear (fun _ => hrun.busFight_eq_false) hk

end Sys2Proof.Safety

/-! The reset edge: what of a tick's result depends on `rst` (R49, R320). -/

namespace Sys2Proof.Machine

/-- The same tick with another `rst`. -/
def State.withRst (s : State) (r : Bool) : State := { s with inputs := { s.inputs with rst := r } }

section
variable (s : State) (r : Bool)

theorem withRst_syncNext : syncNext (s.withRst r) = syncNext s := rfl
theorem withRst_slaveNext : slaveNext (s.withRst r) = slaveNext s := rfl
theorem withRst_arbNext : arbNext (s.withRst r) = arbNext s := rfl
theorem withRst_masterNext : masterNext (s.withRst r) = masterNext s := rfl
theorem withRst_faultsNext : faultsNext (s.withRst r) = faultsNext s := rfl
theorem withRst_wires : wires (s.withRst r) = wires s := rfl

/-- No component's rule reads `rst`: only the reset override does, and the next tick's inputs may carry it on. -/
theorem tick_withRst :
    tick (s.withRst r) =
      { tick s with
        slave := resetSlave r (slaveNext s)
        A := resetArb r (arbNext s)
        master := resetMaster r (masterNext s)
        inputs := inputsNext (s.withRst r) } := by
  rw [tick, tickWith, withRst_syncNext, withRst_slaveNext, withRst_arbNext, withRst_masterNext, withRst_faultsNext,
    withRst_wires]
  rfl

end

/-- Settles O58: both steps are the tick of one state's rules, under the reset override or without it. -/
theorem resetEdgeForcesIdle : Obligations.ResetEdgeForcesIdle := by
  intro s
  refine ⟨tick (s.withRst false), tick (s.withRst true), step_eq_tick _, step_eq_tick _, ?_⟩
  rw [tick_withRst, tick_withRst, resetSlave_false, resetSlave_true, resetArb_true, resetMaster_false,
    resetMaster_true]
  exact ⟨rfl, rfl, rfl, rfl, rfl, rfl, rfl, rfl⟩

end Sys2Proof.Machine
